-- ==== Sys2Proof/Word.lean ====
section
/-!
DEFINITION. Word.lean: the word types of the line and of the positions (spec 00 section 4.2, 11 R180).
-/

namespace Sys2Proof

/-- One byte of the host line (R151, R179). -/
abbrev Byte := BitVec 8

/-- A sequence, tag, round or index count of two bytes (R180). -/
abbrev Word16 := BitVec 16

/-- A position, a following error or the device time: 32 bits, wrapping (00 section 4.2). -/
abbrev Word32 := BitVec 32

/-- One of the four axes (00 section 4.1). -/
abbrev AxisId := Fin 4

/-- One of the eight groups G0 to G7 (R98). -/
abbrev GroupId := Fin 8

end Sys2Proof
end

