-- ==== Sys2Proof/Syntax.lean ====
section
/-!
DEFINITION. Syntax.lean: the commands of the block, one constructor per row of spec/opcode_table.json.
A request's operands (axis, count, records …) are the bytes of the frame the decoder takes (R156, R181), which stands in the
receive buffer, so the constructor of a request carries none (log 8).
-/

namespace Sys2Proof

/-- The inputs of one axis (R173). -/
inductive AxisInput
  | limp | limn | home | dflt | enca | encb | enci
deriving DecidableEq, Repr

/-- The raw input pins that can change level: the axis inputs, TRIP (R174) and the baud straps (R151). -/
inductive InputPin
  | axis (a : AxisId) (i : AxisInput)
  | trip
  | baud1
  | baud0
deriving DecidableEq, Repr

/-- The two limit inputs of an axis (R118). -/
inductive LimitInput
  | positive   -- LIMP
  | negative   -- LIMN
deriving DecidableEq, Repr

/-- The commands, in the table's order. -/
inductive Instr
  -- requests, as the decoder takes them
  | loadSegments
  | trimQueue
  | flushQueue
  | configureQueue
  | enableAxis
  | disableAxis
  | startAxis
  | holdAxis
  | resumeAxis
  | stopAxis
  | setPosition
  | defineGroup
  | readGroupStatus
  | configureProtection
  | clearFault
  | configureReports
  | acknowledgeReports
  | replayReports
  | configureLink
  | readLinkStatus
  | resetDevice
  | noOperation
  | configureAxis
  | readAxisStatus
  | readDeviceInfo
  | unknownRequest
  | duplicate
  -- the line
  | frameReceived (b : Byte)
  | lengthError (b : Byte)
  | frameTimeout
  | breakRecognised
  | linkReset
  | replyFrameBegin
  | replyFrameEnd
  | reportFrameBegin
  | reportFrameEnd
  -- timers
  | retransmitTimerExpiry
  | silenceTimerExpiry
  | silenceCause (a : AxisId)
  | barrierTimerExpiry (g : GroupId)
  -- steps and dwells
  | stepDue (a : AxisId)
  | delayedStepIssue (a : AxisId)
  | stepPulseEnd (a : AxisId)
  | dwellExpiry (a : AxisId)
  -- inputs
  | rawInputChange (p : InputPin) (level : Bool)
  | limitInputChange (a : AxisId) (which : LimitInput)
  | dfltChange (a : AxisId)
  | tripChange
  | tripCause (a : AxisId)
  | seekTriggerEdge (a : AxisId)
  | indexEdge (a : AxisId)
  | quadratureTransition (a : AxisId)
  -- supply and reset
  | powerOn
  | resetnAssert
  | resetnRelease
  | byteDelivered (b : Byte)
  | homeInputChange (a : AxisId)
  | powerLoss
deriving DecidableEq, Repr

end Sys2Proof
end

