-- ==== Sys2Proof/Config.lean ====
section
/-!
DEFINITION. Config.lean: what the part fixes (spec 00 section 1.1, R177) and the free choice of the model.
-/

namespace Sys2Proof.Config

/-- Slots of the segment pool (R5). -/
def poolSlots : Nat := 128

/-- Entries of the report queue (R136). -/
def reportEntries : Nat := 32

/-- Frames of the receive buffer (R153). -/
def rxFrames : Nat := 2

/-- Largest magnitude of a step count or of max steps (R2). -/
def maxStepCount : Nat := 8388607

/-- Lowest rate of a segment, steps/s (R2). -/
def minRate : Nat := 16

/-- Highest rate of a segment, steps/s (R2). -/
def maxRate : Nat := 250000

/-- The part code of Read Device Info (R177). -/
def partCode : Nat := 0x4C57

/-- The revision of Read Device Info and of Reset Notice (R137, R177). -/
def revision : Nat := 1

/-- Device clock units (250 ns) in one microsecond (DESIGN CHOICE, log 3). -/
def quartersPerMicro : Nat := 4

/-- The gap that ends a partial frame: more than 2 ms, in 250 ns units (R152). -/
def gapLimit : Nat := 8001

/-- Which of several events that are due at one moment an idle device takes first (00 section 2.3: they do not wait for one
another and may be taken in either order). A FREE CHOICE: nothing in Lean can evaluate it (DESIGN CHOICE, log 2; safe). -/
opaque freeChoice : Nat → Nat

end Sys2Proof.Config
end

