-- ==== Sys2Proof/Machine/State.lean ====
section
/-!
DEFINITION. Machine/State.lean: everything the spec gives the block, as plain data, and its state right after reset.
Times are Nat and count from the end of the last device reset: a time called "in µs" in microseconds, of which the 32-bit
device time is the count wrapped (R175, log 3); every other one in the 250 ns units of the clock.
-/

namespace Sys2Proof.Machine

/-! ## Segments (spec 01) -/

/-- A direction of travel (R2, R180). -/
inductive Dir
  | positive | negative
deriving DecidableEq, Repr

/-- The trigger input of a SEEK (R2). -/
inductive TrigSource
  | home | index
deriving DecidableEq, Repr

/-- The trigger edge of a SEEK (R2). -/
inductive TrigEdge
  | toActive | toInactive
deriving DecidableEq, Repr

/-- The kind of a segment with the fields of that kind (R2). The report-on-end flag is kept for MOVE and DWELL alone (R1). -/
inductive SegBody
  | move (steps : Int) (startRate endRate : Nat) (reportOnEnd : Bool)
  | dwell (duration : Nat) (reportOnEnd : Bool)
  | seek (dir : Dir) (rate maxSteps : Nat) (source : TrigSource) (edge : TrigEdge)
  | mark
deriving DecidableEq, Repr

/-- An admitted segment record, kept by its fields (R1, R182). -/
structure Segment where
  tag  : Word16
  gate : Option GroupId
  body : SegBody
deriving DecidableEq, Repr

/-! ## The active-segment context (spec 02 R28, 03 R52, 04 R71) -/

/-- The phase of an active segment (R28). -/
inductive Phase
  | stepping | timing | brake | ramp | settle | paused
deriving DecidableEq, Repr

/-- The trigger watch of an active SEEK (R71); `opened` is the spec's OPEN. -/
inductive Watch
  | opened | found | closed
deriving DecidableEq, Repr

/-- The three brake fields (R52): the start rate c, the brake steps issued and the brake step count N. -/
structure Brake where
  start  : Nat
  issued : Nat
  count  : Nat
deriving DecidableEq, Repr

/-- The context of the active segment (R28). -/
structure Ctx where
  /-- the record of the active segment: its kind, tag and direction are copied from it -/
  seg         : Segment
  phase       : Phase
  stepsDone   : Nat
  /-- the dwell time left of a DWELL in µs, 0 for the other kinds -/
  dwellLeft   : Nat
  /-- the clock at the segment's most recent step, or the carried one of a seamless hand-over (R37, log 3) -/
  lastStep    : Option Nat
  brake       : Option Brake
  /-- steps issued since the last Resume: the j of the resume ramp counts from here (R62) -/
  rampSteps   : Nat
  /-- the clock at which the pulse of a step may begin that has fallen due and waits for its DIR lead or for the pulse spacing
  (R35, R37, R170, R171) -/
  delayed     : Option Nat
  /-- the trigger watch, present for a SEEK -/
  watch       : Option Watch
  /-- the captured commanded position and, with the encoder enabled, encoder position (R72) -/
  captured    : Option (Word32 × Option Word32)
  /-- an index edge that is the trigger is on its way to the watch (R88, log 15) -/
  edgePending : Bool
deriving DecidableEq, Repr

/-! ## Settings, faults, encoder, inputs -/

/-- The nine axis states (R26). -/
inductive AxisState
  | off | ready | run | gate | holding | held | stopping | faultBrake | fault
deriving DecidableEq, Repr

/-- The fourteen axis settings (R168). Filters are held by their codes. -/
structure AxisSettings where
  baseRate       : Nat
  decrement      : Nat
  pulseWidth     : Nat
  dirLead        : Nat
  dirInverted    : Bool
  enaActiveHigh  : Bool
  limitActiveHigh : Bool
  homeActiveHigh : Bool
  dfltActiveHigh : Bool
  switchFilter   : Nat
  encoderFilter  : Nat
  encoderEnable  : Bool
  countsPerStep  : Nat
  indexReports   : Bool
deriving DecidableEq, Repr

/-- A policy (R120). -/
inductive Policy
  | halt | brake
deriving DecidableEq, Repr

/-- The seven fault causes (R117). -/
inductive Cause
  | limitPos | limitNeg | drive | follow | encoder | trip | silence
deriving DecidableEq, Repr

/-- The protection settings of an axis (R120, R130). `keepEnable` is enable-after-brake KEEP. -/
structure Protection where
  followLimit        : Nat
  limitPolicy        : Policy
  drivePolicy        : Policy
  followPolicy       : Policy
  encoderPolicy      : Policy
  tripPolicy         : Policy
  silencePolicy      : Policy
  tripEnable         : Bool
  encoderErrorEnable : Bool
  keepEnable         : Bool
deriving DecidableEq, Repr

/-- A fault record (R121). The additional causes are a set: bit c − 1 for the cause of code c (R180). -/
structure FaultRecord where
  first      : Cause
  additional : Byte
  time       : Word32
  position   : Word32
  encoder    : Word32
  fe         : Word32
  activeTag  : Option Word16
  stateAt    : AxisState
deriving DecidableEq, Repr

/-- An Encoder Interface (R82). The quadrature state is kept while the encoder is enabled (R83); a pair is (A, B), true high. -/
structure Encoder where
  position      : Word32
  quad          : Option (Bool × Bool)
  errorCount    : Nat
  indexPosition : Word32
  indexCount    : Word16
  /-- an active index edge is on its way to the Encoder Interface (R88, log 15) -/
  edgePending   : Bool
deriving DecidableEq, Repr

/-- One input of the Input Conditioner (R173): raw level, filtered level (true high), and the clock at which the filter time runs out,
while a change is being timed and until its delivery is taken. -/
structure InputLine where
  raw      : Bool
  filtered : Bool
  due      : Option Nat
deriving DecidableEq, Repr

/-- The seven inputs of an axis (R173). -/
structure AxisInputs where
  limp : InputLine
  limn : InputLine
  home : InputLine
  dflt : InputLine
  enca : InputLine
  encb : InputLine
  enci : InputLine
deriving DecidableEq, Repr

/-- The STEP and DIR outputs of an axis (R170, R171). -/
structure StepOutput where
  high         : Bool
  /-- the clock at the end of the last pulse begun -/
  pulseEnd     : Nat
  /-- the earliest clock at which the next pulse may begin -/
  nextPulse    : Nat
  /-- the direction DIR shows -/
  dirShown     : Dir
  /-- the clock at which DIR last changed -/
  dirChangedAt : Nat
  /-- the direction that DIR takes when the pulse in progress ends (R171) -/
  turnTo       : Option Dir
deriving DecidableEq, Repr

/-! ## One axis -/

/-- Everything the spec keeps per axis: its queue (R6), its Axis Controller (R27, R28), its part of the Protection Unit, its
Encoder Interface, its settings, its inputs and its outputs. -/
structure Axis where
  st             : AxisState
  queue          : List Segment
  quota          : Nat
  threshold      : Nat
  ctx            : Option Ctx
  position       : Word32
  rate           : Nat
  lastDir        : Dir
  /-- ENA is active (R26, R128) -/
  ena            : Bool
  owedFlush      : Bool
  output         : StepOutput
  settings       : AxisSettings
  protection     : Protection
  faultRecord    : Option FaultRecord
  /-- the ENA level fixed when a fault brake began (R123) -/
  enaAfterBrake  : Bool
  encoder        : Encoder
  inputs         : AxisInputs
  /-- a TRIP is on its way to this axis (R119, log 14) -/
  tripPending    : Bool
  /-- a SILENCE is on its way to this axis (R161, log 14) -/
  silencePending : Bool
deriving DecidableEq, Repr

/-! ## Groups (spec 06) -/

/-- A group entry (R98). A set of axes is a 4-bit set (R180); the timer holds its expiry time in µs while it runs. -/
structure Group where
  members       : BitVec 4
  arrived       : BitVec 4
  refCount      : Nat
  round         : Word16
  timeout       : Nat
  releaseReport : Bool
  timer         : Option Nat
deriving DecidableEq, Repr

/-! ## Reports (spec 08) -/

/-- The cause of a device reset (R166). -/
inductive ResetCause
  | powerOn | pin | request
deriving DecidableEq, Repr

/-- Why a segment was aborted (R137). -/
inductive AbortReason
  | stopped | fault
deriving DecidableEq, Repr

/-- The twelve report kinds with their fields (R137). The kinds lost are a set: bit k for the report kind of code k (R180). -/
inductive ReportBody
  | resetNotice (cause : ResetCause) (revision : Nat)
  | segmentDone (a : AxisId) (tag : Word16) (position : Word32)
  | segmentAborted (a : AxisId) (tag : Word16) (reason : AbortReason) (stepsDone : Nat)
  | markReached (a : AxisId) (tag : Word16) (position encoder : Word32)
  | seekResult (a : AxisId) (tag : Word16) (found : Bool) (stepsDone : Nat) (position encoder : Option Word32)
  | queueLow (a : AxisId) (depth : Nat)
  | underrun (a : AxisId) (tag : Word16) (endRate : Nat)
  | faultRaised (a : AxisId) (cause : Cause) (position encoder fe : Word32) (activeTag : Option Word16)
  | groupReleased (g : GroupId) (round : Word16)
  | groupBroken (g : GroupId) (round : Word16) (arrived : BitVec 4)
  | indexSeen (a : AxisId) (position : Word32) (count : Word16)
  | overflow (lost : Nat) (kinds : Word16)
deriving DecidableEq, Repr

/-- An entry of the report queue (R136). -/
structure Entry where
  seq      : Word16
  time     : Word32
  body     : ReportBody
  onceSent : Bool
  inFlight : Bool
deriving DecidableEq, Repr

/-- The Report Unit (R136, R138, R142, R146): queue oldest first, retransmit timeout in ms, expiry time in µs. -/
structure ReportUnit where
  queue     : List Entry
  nextSeq   : Word16
  streaming : Bool
  window    : Nat
  timeout   : Nat
  timer     : Option Nat
deriving DecidableEq, Repr

/-! ## The Command Link (spec 09) -/

/-- A good request frame in the receive buffer (R153). -/
structure Frame where
  seq     : Byte
  code    : Byte
  payload : List Byte
deriving DecidableEq, Repr

/-- A reply: the sequence and code of its request and its payload, the status first (R158). -/
structure Reply where
  seq     : Byte
  code    : Byte
  payload : List Byte
deriving DecidableEq, Repr

/-- The receiver (R152). In BODY it holds the length byte and the bytes kept so far, oldest first. -/
inductive Receiver
  | hunting
  | length
  | body (len : Byte) (kept : List Byte)
deriving DecidableEq, Repr

/-- The reply slot's content (R156). -/
structure ReplySlot where
  reply : Reply
  begun : Bool
deriving DecidableEq, Repr

/-- What kind of frame the transmitter sends (R159). -/
inductive TxKind
  | reply | report
deriving DecidableEq, Repr

/-- The frame in transmission (R159) with all its bytes, and the clock at which its last byte has left at the line rate in
force (log 17). -/
structure TxFrame where
  kind   : TxKind
  bytes  : List Byte
  doneAt : Nat
deriving DecidableEq, Repr

/-- The duplicate record (R160). -/
structure DupRecord where
  valid : Bool
  seq   : Byte
  reply : Reply
deriving DecidableEq, Repr

/-- The seven link counters, 0 to 65,535 and saturating (R163). -/
structure LinkCounters where
  crcErrors     : Nat
  lengthErrors  : Nat
  frameTimeouts : Nat
  overruns      : Nat
  duplicates    : Nat
  retransmits   : Nat
  linkResets    : Nat
deriving DecidableEq, Repr

/-- The Command Link. -/
structure Link where
  receiver       : Receiver
  /-- the clock at which the gap timer last started, while it runs (R152) -/
  gapStart       : Option Nat
  /-- a break has been recognised and has not ended (R154) -/
  inBreak        : Bool
  rxBuffer       : List Frame
  resetPending   : Bool
  replySlot      : Option ReplySlot
  tx             : Option TxFrame
  dup            : DupRecord
  counters       : LinkCounters
  /-- the silence timeout in ms -/
  silenceTimeout : Nat
  /-- the expiry time of the silence timer in µs, while it runs -/
  silenceTimer   : Option Nat
deriving DecidableEq, Repr

/-- The levels of BAUD1 and BAUD0, true high (R151). -/
structure Straps where
  baud1 : Bool
  baud0 : Bool
deriving DecidableEq, Repr

/-- Running, held in reset by RESETN (R166), or without supply (R165). -/
inductive Power
  | on | held | off
deriving DecidableEq, Repr

/-! ## The block -/

/-- The block and the queue of the commands that wait. -/
structure State where
  /-- commands waiting, first in first out -/
  pending   : List Instr
  /-- how many free choices have been made (the MODEL's own field, log 2) -/
  freeCount : Nat
  power     : Power
  /-- RESETN is low (R166) -/
  resetnLow : Bool
  /-- 250 ns units since the end of the last device reset (R175, log 3) -/
  clock     : Nat
  axes      : Vector Axis 4
  /-- the number of slots on the free list (R5) -/
  poolFree  : Nat
  groups    : Vector Group 8
  reports   : ReportUnit
  link      : Link
  /-- the TRIP input (R174) -/
  trip      : InputLine
  /-- the strap pins as they stand -/
  straps    : Straps
  /-- the strap levels sampled at the last device reset (R151) -/
  baud      : Straps
deriving DecidableEq, Repr

/-- Faults: the block has none. The spec's faults are effects on State (07), and every command of the table has an effect or,
where its event cannot take place, none (log 1). -/
inductive Fault
deriving DecidableEq, Repr

/-- Refusals of the model. -/
inductive Refusal
  /-- raised by `exec` for a command that has no meaning yet; safe -/
  | notModelled (mnemonic : String)
deriving DecidableEq, Repr

/-! ## Values after reset -/

/-- The axis settings after a device reset (R168). -/
def AxisSettings.reset : AxisSettings where
  baseRate := 200
  decrement := 50
  pulseWidth := 2
  dirLead := 2
  dirInverted := false
  enaActiveHigh := true
  limitActiveHigh := false
  homeActiveHigh := false
  dfltActiveHigh := false
  switchFilter := 3
  encoderFilter := 1
  encoderEnable := false
  countsPerStep := 4
  indexReports := false

/-- The protection settings after a device reset (R120, R130). -/
def Protection.reset : Protection where
  followLimit := 0
  limitPolicy := .brake
  drivePolicy := .halt
  followPolicy := .halt
  encoderPolicy := .halt
  tripPolicy := .halt
  silencePolicy := .brake
  tripEnable := true
  encoderErrorEnable := false
  keepEnable := true

/-- An Encoder Interface after a device reset (R96). -/
def Encoder.reset : Encoder where
  position := 0
  quad := none
  errorCount := 0
  indexPosition := 0
  indexCount := 0
  edgePending := false

/-- The outputs after a device reset (R50, R178); the times are the model's (DESIGN CHOICE, log 26). -/
def StepOutput.reset : StepOutput where
  high := false
  pulseEnd := 0
  nextPulse := 0
  dirShown := .positive
  dirChangedAt := 0
  turnTo := none

/-- An input whose raw level is taken as its filtered level (R173). -/
def InputLine.settled (level : Bool) : InputLine := ⟨level, level, none⟩

/-- The inputs of an axis at the first reset (DESIGN CHOICE, log 5; unsafe): switch inputs high, encoder inputs low. -/
def AxisInputs.atFirstReset : AxisInputs where
  limp := .settled true
  limn := .settled true
  home := .settled true
  dflt := .settled true
  enca := .settled false
  encb := .settled false
  enci := .settled false

/-- An axis after a device reset, over its inputs (R24, R50, R96, R134, R178). -/
def Axis.reset (inputs : AxisInputs) : Axis where
  st := .off
  queue := []
  quota := 32
  threshold := 4
  ctx := none
  position := 0
  rate := 0
  lastDir := .positive
  ena := false
  owedFlush := false
  output := .reset
  settings := .reset
  protection := .reset
  faultRecord := none
  enaAfterBrake := false
  encoder := .reset
  inputs := inputs
  tripPending := false
  silencePending := false

/-- A group entry after a device reset (R115). -/
def Group.reset : Group where
  members := 0
  arrived := 0
  refCount := 0
  round := 0
  timeout := 0
  releaseReport := false
  timer := none

/-- The Report Unit after a device reset, before Reset Notice is created (R149). -/
def ReportUnit.empty : ReportUnit where
  queue := []
  nextSeq := 0
  streaming := true
  window := 4
  timeout := 50
  timer := none

/-- The Report Unit after a device reset: Reset Notice with sequence 0 and device time 0 is its only entry (R149). -/
def ReportUnit.reset (cause : ResetCause) : ReportUnit :=
  { ReportUnit.empty with
    queue := [⟨0, 0, .resetNotice cause Config.revision, false, false⟩]
    nextSeq := 1 }

/-- The link counters after a device reset (R163). -/
def LinkCounters.reset : LinkCounters := ⟨0, 0, 0, 0, 0, 0, 0⟩

/-- The Command Link after a device reset (R166). The content of the invalid duplicate record is the model's (DESIGN CHOICE,
log 6). -/
def Link.reset : Link where
  receiver := .hunting
  gapStart := none
  inBreak := false
  rxBuffer := []
  resetPending := false
  replySlot := none
  tx := none
  dup := ⟨false, 0, ⟨0, 0, []⟩⟩
  counters := .reset
  silenceTimeout := 0
  silenceTimer := none

/-- The block right after a power-on reset (R166): Reset Notice waits (R149), no command waits. -/
def State.reset : State where
  pending := []
  freeCount := 0
  power := .on
  resetnLow := false
  clock := 0
  axes := Vector.replicate 4 (.reset .atFirstReset)
  poolFree := Config.poolSlots
  groups := Vector.replicate 8 .reset
  reports := .reset .powerOn
  link := .reset
  trip := .settled true
  straps := ⟨false, false⟩
  baud := ⟨false, false⟩

end Sys2Proof.Machine
end

