-- ==== Sys2Proof/Machine/Flags.lean ====
section
/-!
DEFINITION. Machine/Flags.lean: the coded values, flag bits and sets of the line (R180 to R184): what a status, a state, a cause,
a report kind or a set of them is as a number.
-/

namespace Sys2Proof.Machine

/-- The reply status codes (R183). -/
inductive Status
  | ok | unknownRequest | badLength | badIndex | badParam | state | queueFull | poolEmpty | badSegment | groupInUse
  | causeActive | badAck
deriving DecidableEq, Repr

/-- The code of a status (R183). -/
def Status.code : Status → Byte
  | .ok => 0
  | .unknownRequest => 1
  | .badLength => 2
  | .badIndex => 3
  | .badParam => 4
  | .state => 5
  | .queueFull => 6
  | .poolEmpty => 7
  | .badSegment => 8
  | .groupInUse => 9
  | .causeActive => 10
  | .badAck => 11

/-- The validation reasons of a segment record (R3). -/
inductive SegReason
  | badKind | badSteps | badDuration | badMaxSteps | badRate | gateUndefined | gateNotMember
deriving DecidableEq, Repr

/-- The code of a validation reason (R182). -/
def SegReason.code : SegReason → Byte
  | .badKind => 1
  | .badSteps => 2
  | .badDuration => 3
  | .badMaxSteps => 4
  | .badRate => 5
  | .gateUndefined => 6
  | .gateNotMember => 7

/-- The code of an axis state (R180). -/
def AxisState.code : AxisState → Byte
  | .off => 0
  | .ready => 1
  | .run => 2
  | .gate => 3
  | .holding => 4
  | .held => 5
  | .stopping => 6
  | .faultBrake => 7
  | .fault => 8

/-- The code of a phase (R180). -/
def Phase.code : Phase → Byte
  | .stepping => 0
  | .timing => 1
  | .brake => 2
  | .ramp => 3
  | .settle => 4
  | .paused => 5

/-- The code of a segment kind (R180). -/
def SegBody.kindCode : SegBody → Byte
  | .move .. => 1
  | .dwell .. => 2
  | .seek .. => 3
  | .mark => 4

/-- The code of a direction (R180). -/
def Dir.code : Dir → Byte
  | .positive => 0
  | .negative => 1

/-- The code of a fault cause (R180). -/
def Cause.code : Cause → Nat
  | .limitPos => 1
  | .limitNeg => 2
  | .drive => 3
  | .follow => 4
  | .encoder => 5
  | .trip => 6
  | .silence => 7

/-- A cause as a member of a set of causes: bit c − 1 (R180). -/
def Cause.bit (c : Cause) : Byte := 1#8 <<< (c.code - 1)

/-- The report kind code (R184). -/
def ReportBody.kindCode : ReportBody → Nat
  | .resetNotice .. => 1
  | .segmentDone .. => 2
  | .segmentAborted .. => 3
  | .markReached .. => 4
  | .seekResult .. => 5
  | .queueLow .. => 6
  | .underrun .. => 7
  | .faultRaised .. => 8
  | .groupReleased .. => 9
  | .groupBroken .. => 10
  | .indexSeen .. => 11
  | .overflow .. => 12

/-- A report kind as a member of a set of report kinds: bit k (R180). -/
def ReportBody.kindBit (b : ReportBody) : Word16 := 1#16 <<< b.kindCode

/-- Is this the Overflow kind (R137)? -/
def ReportBody.isOverflow : ReportBody → Bool
  | .overflow .. => true
  | .resetNotice .. | .segmentDone .. | .segmentAborted .. | .markReached .. | .seekResult .. | .queueLow .. | .underrun ..
  | .faultRaised .. | .groupReleased .. | .groupBroken .. | .indexSeen .. => false

/-- An axis as a member of a set of axes: bit n (R180). -/
def axisBit (a : AxisId) : BitVec 4 := 1#4 <<< a.val

/-- Is axis `a` in the set (R180)? -/
def inSet (set : BitVec 4) (a : AxisId) : Bool := set.getLsbD a.val

/-- How many axes a set holds. -/
def setSize (set : BitVec 4) : Nat :=
  (set.getLsbD 0).toNat + (set.getLsbD 1).toNat + (set.getLsbD 2).toNat + (set.getLsbD 3).toNat

/-- A flag as bit `i` of a byte (R180); the bits of a sent flags byte that carry no flag are 0 (DESIGN CHOICE, log 31; safe). -/
def flagBit (i : Nat) (b : Bool) : Byte := if b then 1#8 <<< i else 0

/-- A two-valued setting as a byte (R180). -/
def boolByte (b : Bool) : Byte := if b then 1 else 0

/-- The byte of a policy (R181). -/
def Policy.byte : Policy → Byte
  | .halt => 0
  | .brake => 1

/-- The rate that the sampled straps select, in bit/s (R151). -/
def Straps.lineRate : Straps → Nat
  | ⟨false, false⟩ => 115200
  | ⟨false, true⟩ => 460800
  | ⟨true, false⟩ => 1000000
  | ⟨true, true⟩ => 2000000

/-- A counter that stops at 65,535 (00 section 4.2, R163). -/
def satInc (n : Nat) : Nat := if n < 65535 then n + 1 else n

end Sys2Proof.Machine
end

