-- ==== Sys2Proof/Machine/Operands.lean ====
section
/-!
DEFINITION. Machine/Operands.lean: the operand forms of the line (spec 11): numbers in bytes, segment records, settings blocks,
frames and their check value, the fields of every report.
-/

namespace Sys2Proof.Machine

/-! ## Numbers (R180) -/

/-- The `k` low bytes of `n`, least significant first. -/
def leBytes : Nat → Nat → List Byte
  | 0, _ => []
  | k + 1, n => BitVec.ofNat 8 n :: leBytes k (n / 256)

/-- The number that bytes carry, least significant first. -/
def leNat : List Byte → Nat
  | [] => 0
  | b :: bs => b.toNat + 256 * leNat bs

/-- Byte `i` of a payload. -/
def byteAt (p : List Byte) (i : Nat) : Byte := p.getD i 0

/-- The number in `k` bytes of a payload from offset `i`. -/
def field (p : List Byte) (i k : Nat) : Nat := leNat ((p.drop i).take k)

/-- Flag bit `i` of a byte. -/
def flag (b : Byte) (i : Nat) : Bool := b.getLsbD i

/-- A 24-bit two's complement number (R180). -/
def signed24 (n : Nat) : Int := if n < 8388608 then n else (n : Int) - 16777216

/-- A 32-bit word as four bytes (R180). -/
def bytes32 (w : Word32) : List Byte := leBytes 4 w.toNat

/-- A 16-bit word as two bytes (R180). -/
def bytes16 (w : Word16) : List Byte := leBytes 2 w.toNat

/-- An optional field keeps its place: absent is sent as 0 (R180). -/
def bytes32? (w : Option Word32) : List Byte := bytes32 (w.getD 0)

/-- An optional two-byte field (R180). -/
def bytes16? (w : Option Word16) : List Byte := bytes16 (w.getD 0)

/-- The axis that an index byte names, if it lies in 0 to 3 (R157 check 3). -/
def axisOf (b : Byte) : Option AxisId := if h : b.toNat < 4 then some ⟨b.toNat, h⟩ else none

/-- The group that an index byte names, if it lies in 0 to 7 (R157 check 3). -/
def groupOf (b : Byte) : Option GroupId := if h : b.toNat < 8 then some ⟨b.toNat, h⟩ else none

/-- A two-valued setting: 0 or 1, any other byte is out of range (R180). -/
def twoValued (b : Byte) : Option Bool := if b = 0 then some false else if b = 1 then some true else none

/-! ## Segment records (R3, R182) -/

/-- Does a rate lie in 16 to 250,000 (R2)? -/
def rateInRange (r : Nat) : Bool := Config.minRate ≤ r && r ≤ Config.maxRate

/-- The kind and kind-specific part of a record, checked in the order of R3, checks 1 to 6. -/
def recordBody (r : List Byte) : Except SegReason SegBody :=
  if byteAt r 0 = 1 then
    let steps := signed24 (field r 4 3)
    let startRate := field r 7 3
    let endRate := field r 10 3
    if steps = 0 || Config.maxStepCount < steps.natAbs then .error .badSteps
    else if !rateInRange startRate || !rateInRange endRate then .error .badRate
    else .ok (.move steps startRate endRate (flag (byteAt r 1) 0))
  else if byteAt r 0 = 2 then
    if field r 4 3 = 0 then .error .badDuration
    else .ok (.dwell (field r 4 3) (flag (byteAt r 1) 0))
  else if byteAt r 0 = 3 then
    let options := byteAt r 4
    let rate := field r 5 3
    let maxSteps := field r 8 3
    if maxSteps = 0 || Config.maxStepCount < maxSteps then .error .badMaxSteps
    else if !rateInRange rate then .error .badRate
    else .ok (.seek (if flag options 0 then .negative else .positive) rate maxSteps
      (if flag options 1 then .index else .home) (if flag options 2 then .toInactive else .toActive))
  else if byteAt r 0 = 4 then .ok .mark
  else .error .badKind

/-- The gate of a record: present when flag bit 1 is set, its group in bits 2 to 4 (R182). -/
def recordGate (r : List Byte) : Option GroupId :=
  if flag (byteAt r 1) 1 then some ⟨(byteAt r 1).toNat / 4 % 8, Nat.mod_lt _ (by decide)⟩ else none

/-- One record, checked in the order of R3 against the member sets as they stand (R4). -/
def readRecord (members : GroupId → BitVec 4) (a : AxisId) (r : List Byte) : Except SegReason Segment :=
  match recordBody r with
  | .error reason => .error reason
  | .ok body =>
    match recordGate r with
    | none => .ok ⟨BitVec.ofNat 16 (field r 2 2), none, body⟩
    | some g =>
      if members g = 0 then .error .gateUndefined
      else if !inSet (members g) a then .error .gateNotMember
      else .ok ⟨BitVec.ofNat 16 (field r 2 2), some g, body⟩

/-- The records of a Load Segments payload, 14 bytes each, in the order they are carried (R182). -/
def recordsOf (payload : List Byte) (count : Nat) : List (List Byte) :=
  (List.range count).map fun i => (payload.drop (2 + 14 * i)).take 14

/-- Validation of the records in order: the first invalid one refuses with its index and reason (R4). -/
def readRecords (members : GroupId → BitVec 4) (a : AxisId) : Nat → List (List Byte) → Except (Nat × SegReason) (List Segment)
  | _, [] => .ok []
  | i, r :: rs =>
    match readRecord members a r with
    | .error reason => .error (i, reason)
    | .ok seg =>
      match readRecords members a (i + 1) rs with
      | .error e => .error e
      | .ok segs => .ok (seg :: segs)

/-! ## Settings blocks (R181) -/

/-- The axis settings block of Configure Axis and Read Axis Status (R181). -/
def AxisSettings.bytes (x : AxisSettings) : List Byte :=
  leBytes 2 x.baseRate ++ leBytes 2 x.decrement ++
  [BitVec.ofNat 8 x.pulseWidth, BitVec.ofNat 8 x.dirLead, boolByte x.dirInverted, boolByte x.enaActiveHigh,
   boolByte x.limitActiveHigh, boolByte x.homeActiveHigh, boolByte x.dfltActiveHigh, BitVec.ofNat 8 x.switchFilter,
   BitVec.ofNat 8 x.encoderFilter, boolByte x.encoderEnable, BitVec.ofNat 8 x.countsPerStep, boolByte x.indexReports]

/-- A number that lies in a range, bounds included. -/
def inRange (lo hi n : Nat) : Bool := lo ≤ n && n ≤ hi

/-- The settings that a Configure Axis block carries, if every one lies in its values (R168). `p` is the whole payload; the
block begins at offset 1. -/
def readAxisSettings (p : List Byte) : Option AxisSettings :=
  if inRange 16 50000 (field p 1 2) && inRange 1 65535 (field p 3 2) && inRange 1 63 (field p 5 1) && inRange 1 63 (field p 6 1)
      && inRange 0 7 (field p 12 1) && inRange 0 3 (field p 13 1) && inRange 1 64 (field p 15 1) then
    match twoValued (byteAt p 7), twoValued (byteAt p 8), twoValued (byteAt p 9), twoValued (byteAt p 10),
      twoValued (byteAt p 11), twoValued (byteAt p 14), twoValued (byteAt p 16) with
    | some inv, some ena, some lim, some home, some dflt, some enc, some idx =>
      some
        { baseRate := field p 1 2
          decrement := field p 3 2
          pulseWidth := field p 5 1
          dirLead := field p 6 1
          dirInverted := inv
          enaActiveHigh := ena
          limitActiveHigh := lim
          homeActiveHigh := home
          dfltActiveHigh := dflt
          switchFilter := field p 12 1
          encoderFilter := field p 13 1
          encoderEnable := enc
          countsPerStep := field p 15 1
          indexReports := idx }
    | _, _, _, _, _, _, _ => none
  else none

/-- A policy byte: 0 HALT, 1 BRAKE (R181). -/
def readPolicy (b : Byte) : Option Policy := if b = 0 then some .halt else if b = 1 then some .brake else none

/-- The settings that a Configure Protection payload carries, if the policies and enable-after-brake lie in their values (R130,
R181). -/
def readProtection (p : List Byte) : Option Protection :=
  match readPolicy (byteAt p 3), readPolicy (byteAt p 4), readPolicy (byteAt p 5), readPolicy (byteAt p 6),
    readPolicy (byteAt p 7), readPolicy (byteAt p 8), twoValued (byteAt p 9) with
  | some lim, some drv, some fol, some enc, some trp, some sil, some drop =>
    some
      { followLimit := field p 1 2
        limitPolicy := lim
        drivePolicy := drv
        followPolicy := fol
        encoderPolicy := enc
        tripPolicy := trp
        silencePolicy := sil
        tripEnable := flag (byteAt p 10) 0
        encoderErrorEnable := flag (byteAt p 10) 1
        keepEnable := !drop }
  | _, _, _, _, _, _, _ => none

/-- The ten bytes of protection settings, as the request carries them after the axis index (R181, R183). The unassigned bits of the
flags byte are sent as 0 (DESIGN CHOICE, log 31; safe). -/
def Protection.bytes (x : Protection) : List Byte :=
  leBytes 2 x.followLimit ++
  [x.limitPolicy.byte, x.drivePolicy.byte, x.followPolicy.byte, x.encoderPolicy.byte, x.tripPolicy.byte, x.silencePolicy.byte,
   boolByte (!x.keepEnable), flagBit 0 x.tripEnable ||| flagBit 1 x.encoderErrorEnable]

/-! ## Frames (R179) -/

/-- One shift of the check register (R179). -/
def crcShift (r : Word16) : Word16 := if r.msb then (r <<< 1) ^^^ 0x1021#16 else r <<< 1

/-- One byte taken into the check register: into its upper eight bits, then eight shifts (R179). -/
def crcByte (r : Word16) (b : Byte) : Word16 :=
  crcShift (crcShift (crcShift (crcShift (crcShift (crcShift (crcShift (crcShift (r ^^^ (b.setWidth 16 <<< 8)))))))))

/-- The check value of a run of bytes (R179). -/
def crc16 (bs : List Byte) : Word16 := bs.foldl crcByte 0xFFFF#16

/-- All bytes of a frame: start byte, length, kind, sequence, code, payload, check value low byte first (R179). -/
def frameBytes (kind seq code : Byte) (payload : List Byte) : List Byte :=
  let checked := BitVec.ofNat 8 (payload.length + 3) :: kind :: seq :: code :: payload
  0x96#8 :: checked ++ bytes16 (crc16 checked)

/-- The frame of a reply: kind 2 (R158, R179). -/
def Reply.frame (r : Reply) : List Byte := frameBytes 2 r.seq r.code r.payload

/-! ## Reports (R184) -/

/-- The presence of an optional field as bit `i` (R180). -/
def presence {α : Type} (i : Nat) (o : Option α) : Byte := flagBit i o.isSome

/-- The code of a reset cause (R184). -/
def ResetCause.code : ResetCause → Byte
  | .powerOn => 0
  | .pin => 1
  | .request => 2

/-- The code of an abort reason (R184). -/
def AbortReason.code : AbortReason → Byte
  | .stopped => 0
  | .fault => 1

/-- An axis index as a byte (R180). -/
def axisByte (a : AxisId) : Byte := BitVec.ofNat 8 a.val

/-- A group index as a byte (R180). -/
def groupByte (g : GroupId) : Byte := BitVec.ofNat 8 g.val

/-- The fields of a report after its sequence and device time (R184). -/
def ReportBody.fieldBytes : ReportBody → List Byte
  | .resetNotice cause revision => [cause.code, BitVec.ofNat 8 revision]
  | .segmentDone a tag position => axisByte a :: bytes16 tag ++ bytes32 position
  | .segmentAborted a tag reason stepsDone => axisByte a :: bytes16 tag ++ reason.code :: leBytes 3 stepsDone
  | .markReached a tag position encoder => axisByte a :: bytes16 tag ++ bytes32 position ++ bytes32 encoder
  | .seekResult a tag found stepsDone position encoder =>
    axisByte a :: bytes16 tag ++ boolByte (!found) :: leBytes 3 stepsDone ++ (presence 0 position ||| presence 1 encoder)
      :: bytes32? position ++ bytes32? encoder
  | .queueLow a depth => [axisByte a, BitVec.ofNat 8 depth]
  | .underrun a tag endRate => axisByte a :: bytes16 tag ++ leBytes 3 endRate
  | .faultRaised a cause position encoder fe activeTag =>
    axisByte a :: BitVec.ofNat 8 cause.code :: bytes32 position ++ bytes32 encoder ++ bytes32 fe ++ presence 0 activeTag
      :: bytes16? activeTag
  | .groupReleased g round => groupByte g :: bytes16 round
  | .groupBroken g round arrived => groupByte g :: bytes16 round ++ [arrived.setWidth 8]
  | .indexSeen a position count => axisByte a :: bytes32 position ++ bytes16 count
  | .overflow lost kinds => leBytes 2 lost ++ bytes16 kinds

/-- The frame of a report: kind 3, frame sequence 0, the report kind as its code (R159, R184). -/
def Entry.frame (e : Entry) : List Byte :=
  frameBytes 3 0 (BitVec.ofNat 8 e.body.kindCode) (bytes16 e.seq ++ bytes32 e.time ++ e.body.fieldBytes)

end Sys2Proof.Machine
end

