-- ==== Sys2Proof/Machine/Ops.lean ====
section
/-!
DEFINITION. Machine/Ops.lean: the named operations that the meanings share: the homes of the state, the clock, the Report Unit's
queue, the Segment Store, the barrier sets, the inputs, the step arithmetic, and the device reset.
-/

namespace Sys2Proof.Machine

/-! ## Homes -/

/-- Everything kept for axis `a`. -/
def State.axis (s : State) (a : AxisId) : Axis := s.axes[a.val]

/-- `s` with axis `a` replaced. -/
def State.setAxis (s : State) (a : AxisId) (x : Axis) : State := { s with axes := s.axes.set a.val x }

/-- `s` with axis `a` changed by `f`. -/
def State.modAxis (s : State) (a : AxisId) (f : Axis → Axis) : State := s.setAxis a (f (s.axis a))

/-- The entry of group `g`. -/
def State.group (s : State) (g : GroupId) : Group := s.groups[g.val]

/-- `s` with the entry of group `g` replaced. -/
def State.setGroup (s : State) (g : GroupId) (x : Group) : State := { s with groups := s.groups.set g.val x }

/-- `s` with the entry of group `g` changed by `f`. -/
def State.modGroup (s : State) (g : GroupId) (f : Group → Group) : State := s.setGroup g (f (s.group g))

/-- `s` with the Command Link changed by `f`. -/
def State.modLink (s : State) (f : Link → Link) : State := { s with link := f s.link }

/-- `s` with the link counters changed by `f`. -/
def State.modCounters (s : State) (f : LinkCounters → LinkCounters) : State :=
  s.modLink fun l => { l with counters := f l.counters }

/-- The four axes, each changed by `f`. -/
def mapAxes (f : AxisId → Axis → Axis) (v : Vector Axis 4) : Vector Axis 4 := #v[f 0 v[0], f 1 v[1], f 2 v[2], f 3 v[3]]

/-- `s` with each axis changed by `f`. -/
def State.modAxes (s : State) (f : AxisId → Axis → Axis) : State := { s with axes := mapAxes f s.axes }

/-- `s` with `n` slots on the free list. -/
def State.setPool (s : State) (n : Nat) : State := { s with poolFree := n }

/-- `s` with the Report Unit replaced. -/
def State.setReports (s : State) (r : ReportUnit) : State := { s with reports := r }

/-! ## The Time Base (R175) -/

/-- Microseconds since the end of the last device reset. -/
def State.micros (s : State) : Nat := s.clock / Config.quartersPerMicro

/-- The device time: that count, wrapping at 2^32 (R175). -/
def State.deviceTime (s : State) : Word32 := BitVec.ofNat 32 s.micros

/-- The dwell time left falls with device time while the phase is TIMING (R43). -/
def Axis.spend (us : Nat) (x : Axis) : Axis :=
  match x.ctx with
  | some c => if c.phase = .timing then { x with ctx := some { c with dwellLeft := c.dwellLeft - us } } else x
  | none => x

/-- Time passes until the clock stands at `q`; nothing happens when it already does. -/
def State.passTo (s : State) (q : Nat) : State :=
  if s.clock < q then
    { s.modAxes fun _ x => x.spend (q / Config.quartersPerMicro - s.clock / Config.quartersPerMicro) with clock := q }
  else s

/-- Time passes until the time `t` in µs, or not at all when that time has come: the moment a timed event takes place (log 4). -/
def State.passToMicros (s : State) (t : Nat) : State := s.passTo (t * Config.quartersPerMicro)

/-- The milliseconds from now to an expiry time in µs, rounded up, at least 1 while the timer runs (R101, R163): an expiry that is
due and not yet taken shows 1 (log 4). -/
def State.msLeft (s : State) (expiry : Nat) : Nat := max 1 ((expiry - s.micros + 999) / 1000)

/-! ## The Report Unit (R136 to R143) -/

/-- A report counted into the Overflow entry (R139). -/
def Entry.countLost (body : ReportBody) (e : Entry) : Entry :=
  match e.body with
  | .overflow lost kinds => { e with body := .overflow (satInc lost) (kinds ||| body.kindBit) }
  | _ => e

/-- A report appended as the newest entry: it takes the next sequence, both marks clear (R138). -/
def ReportUnit.append (time : Word32) (body : ReportBody) (r : ReportUnit) : ReportUnit :=
  { r with queue := r.queue ++ [⟨r.nextSeq, time, body, false, false⟩], nextSeq := r.nextSeq + 1 }

/-- Placement of a new report (R139). -/
def ReportUnit.create (time : Word32) (body : ReportBody) (r : ReportUnit) : ReportUnit :=
  if r.queue.any (·.body.isOverflow) then { r with queue := r.queue.map (Entry.countLost body) }
  else if r.queue.length < Config.reportEntries - 1 then r.append time body
  else r.append time (.overflow 1 body.kindBit)

/-- A block has the Report Unit create a report, stamped with the present device time (R138). -/
def State.report (s : State) (body : ReportBody) : State := s.setReports (s.reports.create s.deviceTime body)

/-- A report that is created or not, as its rule says. -/
def State.report? (s : State) : Option ReportBody → State
  | none => s
  | some body => s.report body

/-- The in-flight count (R136). -/
def ReportUnit.inFlightCount (r : ReportUnit) : Nat := (r.queue.filter (·.inFlight)).length

/-- A go-back: every in-flight mark cleared, the retransmit timer stopped (R143). -/
def ReportUnit.goBack (r : ReportUnit) : ReportUnit :=
  { r with queue := r.queue.map (fun e => { e with inFlight := false }), timer := none }

/-- The entry the Report Unit offers to the transmitter: the oldest whose in-flight mark is clear, while streaming is enabled and
the in-flight count is below the window (R141). -/
def ReportUnit.offered (r : ReportUnit) : Option Entry :=
  if r.streaming && r.inFlightCount < r.window then r.queue.find? (fun e => !e.inFlight) else none

/-- The oldest entry whose in-flight mark is clear gets both marks (R141). -/
def markSent : List Entry → List Entry
  | [] => []
  | e :: es => if e.inFlight then e :: markSent es else { e with inFlight := true, onceSent := true } :: es

/-- ATTN is active while the queue holds an entry (R147). -/
def State.attnActive (s : State) : Bool := !s.reports.queue.isEmpty

/-- The level of the ATTN pin: low when active, high when inactive (R147). -/
def State.attnPin (s : State) : Bool := !s.attnActive

/-! ## The Segment Store (R5 to R23) -/

/-- The depth of an axis queue (R6). -/
def Axis.depth (x : Axis) : Nat := x.queue.length

/-- The staged segment: the second, behind an active head (R8). -/
def Axis.staged (x : Axis) : Option Segment := if x.ctx.isSome then x.queue[1]? else none

/-- The gate of the head (R176). -/
def Axis.headGate (x : Axis) : Option GroupId := x.queue.head?.bind (·.gate)

/-- How many segments from the head on are protected against Trim Queue (R10): the active and the staged one, or the gated head
of an axis in GATE. -/
def Axis.protectedCount (x : Axis) : Nat := if x.ctx.isSome then 2 else if x.st = .gate then 1 else 0

/-- The notification +1 of an admitted segment (R12, R23). -/
def State.addRef (s : State) (seg : Segment) : State :=
  match seg.gate with
  | none => s
  | some g => s.modGroup g fun x => { x with refCount := x.refCount + 1 }

/-- The notification −1 of a segment that leaves (R23). -/
def State.dropRef (s : State) (seg : Segment) : State :=
  match seg.gate with
  | none => s
  | some g => s.modGroup g fun x => { x with refCount := x.refCount - 1 }

/-- Admission: one slot for each record, appended in request order, then the notifications in record order (R12). -/
def State.enqueue (s : State) (a : AxisId) (segs : List Segment) : State :=
  let s := s.modAxis a fun x => { x with queue := x.queue ++ segs }
  segs.foldl State.addRef (s.setPool (s.poolFree - segs.length))

/-- The Queue Low check of a departure that left `depth` segments (R22). -/
def queueLow? (a : AxisId) (threshold depth : Nat) : Option ReportBody :=
  if threshold != 0 && depth + 1 == threshold then some (.queueLow a depth) else none

/-- The head leaves by completion or abort: slot freed, −1, Queue Low check, context discarded (R21). -/
def State.removeHead (s : State) (a : AxisId) : State :=
  match (s.axis a).queue with
  | [] => s.modAxis a fun x => { x with ctx := none }
  | seg :: rest =>
    let s := s.modAxis a fun x => { x with queue := rest, ctx := none }
    ((s.setPool (s.poolFree + 1)).dropRef seg).report? (queueLow? a (s.axis a).threshold rest.length)

/-- The segments behind the first `keep` leave from the tail toward the head, each slot freed, −1 for each gated one (R15, R17). -/
def State.dropTail (s : State) (a : AxisId) (keep : Nat) : State :=
  let gone := (s.axis a).queue.drop keep
  let s := s.modAxis a fun x => { x with queue := x.queue.take keep }
  gone.reverse.foldl State.dropRef (s.setPool (s.poolFree + gone.length))

/-! ## Barrier sets (R102, R106) -/

/-- An axis leaves a group's arrival set; the timer stops when the set is then empty (R106). -/
def State.withdrawFrom (s : State) (g : GroupId) (a : AxisId) : State :=
  s.modGroup g fun x =>
    { x with
      arrived := x.arrived &&& ~~~axisBit a
      timer := if x.arrived &&& ~~~axisBit a = 0 then none else x.timer }

/-- The withdrawal of an axis in GATE from the group its head names; nothing in any other state (R106). -/
def State.withdraw (s : State) (a : AxisId) : State :=
  if (s.axis a).st = .gate then
    match (s.axis a).headGate with
    | some g => s.withdrawFrom g a
    | none => s
  else s

/-! ## Following error (R89, R90) -/

/-- FE: encoder position less K times commanded position, modulo 2^32 (R89). -/
def Axis.fe (x : Axis) : Word32 := x.encoder.position - BitVec.ofNat 32 x.settings.countsPerStep * x.position

/-- The evaluation of R90: the encoder enabled, the axis not in OFF, the limit not 0, and |FE| over it. -/
def Axis.followExceeded (x : Axis) : Bool :=
  x.settings.encoderEnable && x.st != .off && x.protection.followLimit != 0
    && x.protection.followLimit < x.fe.toInt.natAbs

/-! ## Inputs (R173, R174) -/

/-- One input of an axis. -/
def AxisInputs.line (x : AxisInputs) : AxisInput → InputLine
  | .limp => x.limp
  | .limn => x.limn
  | .home => x.home
  | .dflt => x.dflt
  | .enca => x.enca
  | .encb => x.encb
  | .enci => x.enci

/-- One input of an axis replaced. -/
def AxisInputs.setLine (x : AxisInputs) (i : AxisInput) (l : InputLine) : AxisInputs :=
  match i with
  | .limp => { x with limp := l }
  | .limn => { x with limn := l }
  | .home => { x with home := l }
  | .dflt => { x with dflt := l }
  | .enca => { x with enca := l }
  | .encb => { x with encb := l }
  | .enci => { x with enci := l }

/-- Is an input active at high? ENCI is active high, fixed (R87); ENCA and ENCB have no polarity and are read as levels. -/
def AxisSettings.activeHigh (x : AxisSettings) : AxisInput → Bool
  | .limp | .limn => x.limitActiveHigh
  | .home => x.homeActiveHigh
  | .dflt => x.dfltActiveHigh
  | .enca | .encb | .enci => true

/-- The filter time of a switch filter code in 250 ns units: 0, 1, 2, 4, 8, 16, 32 or 64 µs (R168). -/
def switchFilterTime (code : Nat) : Nat := if code = 0 then 0 else Config.quartersPerMicro * 2 ^ (code - 1)

/-- The filter time of an encoder filter code in 250 ns units: 0, 250, 500 or 1000 ns (R168). -/
def encoderFilterTime (code : Nat) : Nat := if code = 0 then 0 else 2 ^ (code - 1)

/-- The filter time of an axis input (R173). -/
def AxisSettings.filterTime (x : AxisSettings) : AxisInput → Nat
  | .limp | .limn | .home | .dflt => switchFilterTime x.switchFilter
  | .enca | .encb | .enci => encoderFilterTime x.encoderFilter

/-- The fixed filter of TRIP: 4 µs (R174). -/
def tripFilterTime : Nat := 16

/-- Is an input active: its filtered level equals its active level (R173)? -/
def Axis.inputActive (x : Axis) (i : AxisInput) : Bool := (x.inputs.line i).filtered == x.settings.activeHigh i

/-- TRIP is active low (R174). -/
def State.tripActive (s : State) : Bool := !s.trip.filtered

/-- A raw level change: a filter time starts, or is cancelled if it has not run out (R173, log 16). -/
def InputLine.rawChange (clock filterTime : Nat) (level : Bool) (l : InputLine) : InputLine :=
  if l.raw = level then l
  else
    match l.due with
    | none => { l with raw := level, due := some (clock + filterTime) }
    | some t => { l with raw := level, due := if clock < t then none else some t }

/-- The delivery at the end of the filter time: the filtered level changes (R173); a raw level that has returned is timed from here
(log 16). -/
def InputLine.deliver (clock filterTime : Nat) (l : InputLine) : InputLine :=
  { l with filtered := !l.filtered, due := if l.raw = !l.filtered then none else some (clock + filterTime) }

/-- A change still being timed is timed again from now under the new filter time (R169); one whose filter time has run out is no longer
being timed, and its delivery stays due (R173; DESIGN CHOICE, log 16; safe). -/
def InputLine.retime (clock filterTime : Nat) (l : InputLine) : InputLine :=
  { l with due := l.due.map fun t => if clock < t then clock + filterTime else t }

/-- One input of axis `a` is delivered now. -/
def State.deliverInput (s : State) (a : AxisId) (i : AxisInput) : State :=
  s.modAxis a fun x => { x with inputs := x.inputs.setLine i ((x.inputs.line i).deliver s.clock (x.settings.filterTime i)) }

/-! ## Segments and steps (R28, R34 to R37, R52, R53, R62) -/

/-- The direction of a stepping segment (R28). -/
def SegBody.dir : SegBody → Dir
  | .move steps _ _ _ => if steps < 0 then .negative else .positive
  | .seek dir _ _ _ _ => dir
  | .dwell .. | .mark => .positive

/-- The step count of a MOVE or the max steps of a SEEK (R28). -/
def SegBody.total : SegBody → Nat
  | .move steps _ _ _ => steps.natAbs
  | .seek _ _ maxSteps _ _ => maxSteps
  | .dwell .. | .mark => 0

/-- A MOVE or a SEEK (R28). -/
def SegBody.makesSteps : SegBody → Bool
  | .move .. | .seek .. => true
  | .dwell .. | .mark => false

/-- A SEEK (R69). -/
def SegBody.isSeek : SegBody → Bool
  | .seek .. => true
  | .move .. | .dwell .. | .mark => false

/-- The rate of step k of a MOVE, division truncated toward zero (R36). -/
def moveRate (n startRate endRate k : Nat) : Nat :=
  if n ≤ 1 then startRate
  else ((startRate : Int) + Int.tdiv (((endRate : Int) - startRate) * ((k : Int) - 1)) ((n : Int) - 1)).toNat

/-- The profile rate r_k; for a SEEK its constant rate at every k (R36, R69). -/
def SegBody.profileRate (b : SegBody) (k : Nat) : Nat :=
  match b with
  | .move steps startRate endRate _ => moveRate steps.natAbs startRate endRate k
  | .seek _ rate _ _ _ => rate
  | .dwell .. | .mark => 0

/-- The brake step count N from the start rate c (R53). -/
def brakeCount (c base decrement : Nat) : Nat := if c ≤ base then 0 else (c - base - 1) / decrement

/-- The interval before a step, in µs (R37). -/
def interval (rate : Nat) : Nat := 1000000 / rate

/-- The axis is stepping (R28). -/
def Axis.stepping (x : Axis) : Bool :=
  (x.st = .run || x.st = .holding || x.st = .stopping || x.st = .faultBrake)
    && x.ctx.any (fun c => c.seg.body.makesSteps)

/-- The rate of the segment's next step: profile, ramp or brake rate by phase (R36, R53, R62). -/
def Ctx.nextRate (c : Ctx) (set : AxisSettings) : Nat :=
  match c.phase with
  | .stepping => c.seg.body.profileRate (c.stepsDone + 1)
  | .ramp => min (c.seg.body.profileRate (c.stepsDone + 1)) (set.baseRate + (c.rampSteps + 1) * set.decrement)
  | .brake | .settle =>
    match c.brake with
    | some b => b.start - (b.issued + 1) * set.decrement
    | none => 0
  | .timing | .paused => 0

/-- Does the segment have a next step: steps left and, in a brake, brake steps left (R28, R53)? -/
def Ctx.hasNextStep (c : Ctx) : Bool :=
  c.seg.body.makesSteps && c.stepsDone < c.seg.body.total &&
    match c.phase with
    | .stepping | .ramp => true
    | .brake | .settle => c.brake.any (fun b => b.issued < b.count)
    | .timing | .paused => false

/-- The clock at which the next step falls due: one interval after the last step, or at once for the first step from standstill
and the first after a Resume (R37, R53, R61, R62). -/
def Ctx.nextDue (c : Ctx) (set : AxisSettings) : Nat :=
  match c.lastStep with
  | none => 0
  | some t => if c.phase = .ramp && c.rampSteps = 0 then 0 else t + Config.quartersPerMicro * interval (c.nextRate set)

/-- How a brake stands after an event: goes on, ends by exhaustion of the segment (R56), or completes (R55). -/
inductive BrakeEnd
  | running | exhausted | completed
deriving DecidableEq, Repr

/-- Exhaustion comes before completion when one step is both (DEDUCED, log 10). -/
def Ctx.brakeEnd (c : Ctx) : BrakeEnd :=
  match c.brake with
  | none => .running
  | some b =>
    if c.seg.body.total ≤ c.stepsDone then .exhausted
    else if b.count ≤ b.issued then .completed
    else .running

/-- A brake begins from the current rate; a step that waits is not issued (R52). -/
def Ctx.beginBrake (phase : Phase) (rate : Nat) (set : AxisSettings) (c : Ctx) : Ctx :=
  { c with phase := phase, brake := some ⟨rate, 0, brakeCount rate set.baseRate set.decrement⟩, delayed := none }

/-- An OPEN watch becomes CLOSED (R71); an edge on its way to it is lost. -/
def Ctx.closeWatch (c : Ctx) : Ctx :=
  { c with watch := c.watch.map (fun w => if w = .opened then .closed else w), edgePending := false }

/-! ## STEP and DIR (R170, R171) -/

/-- DIR changes at `at_` to this direction; a change that waited is superseded (R171). -/
def StepOutput.turn (at_ : Nat) (dir : Dir) (o : StepOutput) : StepOutput :=
  { o with dirShown := dir, dirChangedAt := at_, turnTo := none }

/-- The STEP pulse ends; a DIR change that waits for it takes place, whatever has become of its step (R170, R171, log 13). -/
def StepOutput.endPulse (o : StepOutput) : StepOutput :=
  match o.turnTo with
  | some dir => { o with high := false }.turn o.pulseEnd dir
  | none => { o with high := false }

/-- The STEP pulse of an axis ends (R170, R171). -/
def Axis.endPulse (x : Axis) : Axis := { x with output := x.output.endPulse }

/-- A pulse whose width has run out has ended (R170). -/
def Axis.endPulseIfOver (now : Nat) (x : Axis) : Axis :=
  if x.output.high && x.output.pulseEnd ≤ now then x.endPulse else x

/-- A pulse begins: STEP high for the pulse width, then low for at least as long before the next (R170). -/
def Axis.beginPulse (now : Nat) (x : Axis) : Axis :=
  { x with
    output := { x.output with
      high := true
      pulseEnd := now + Config.quartersPerMicro * x.settings.pulseWidth
      nextPulse := now + 2 * (Config.quartersPerMicro * x.settings.pulseWidth) } }

/-- The level of the STEP pin (R170). -/
def Axis.stepPin (x : Axis) : Bool := x.output.high

/-- The level of the DIR pin: high for positive without inversion (R171). -/
def Axis.dirPin (x : Axis) : Bool := (x.output.dirShown = .positive) != x.settings.dirInverted

/-- The level of the ENA pin (R172). -/
def Axis.enaPin (x : Axis) : Bool := x.ena == x.settings.enaActiveHigh

/-! ## Device reset (R166) -/

/-- The raw levels of an axis taken as filtered levels, without a delivery (R173). -/
def AxisInputs.resettle (x : AxisInputs) : AxisInputs where
  limp := .settled x.limp.raw
  limn := .settled x.limn.raw
  home := .settled x.home.raw
  dflt := .settled x.dflt.raw
  enca := .settled x.enca.raw
  encb := .settled x.encb.raw
  enci := .settled x.enci.raw

/-- Every block at its reset values with an empty report queue, over the raw pin levels as they stand: the device while it is
held in reset or without supply (R166, log 7). -/
def State.blank (s : State) (power : Power) : State where
  pending := s.pending
  freeCount := s.freeCount
  power := power
  resetnLow := s.resetnLow
  clock := 0
  axes := mapAxes (fun _ x => .reset x.inputs.resettle) s.axes
  poolFree := Config.poolSlots
  groups := Vector.replicate 8 .reset
  reports := .empty
  link := .reset
  trip := .settled s.trip.raw
  straps := s.straps
  baud := s.straps

/-- The device reset: every block at its reset values, then Reset Notice (R149, R166). -/
def State.deviceReset (s : State) (cause : ResetCause) : State :=
  (s.blank .on).report (.resetNotice cause Config.revision)

end Sys2Proof.Machine
end

