-- ==== Sys2Proof/Machine/Faults.lean ====
section
/-!
DEFINITION. Machine/Faults.lean: how segments complete and abort, how brakes end outside RUN, how READY is reached, and how a
fault cause is raised (spec 03 R55, R56, R59, R65; 04 R74, R76; 07).
-/

namespace Sys2Proof.Machine

/-! ## Departures of the active segment -/

/-- The report of a completion: Segment Done when report-on-end is set (R38, R43), Seek Result NOT_FOUND for a SEEK whose trigger
was not found (R75, R76), Mark Reached (R44). -/
def completionReport? (a : AxisId) (x : Axis) (c : Ctx) : Option ReportBody :=
  match c.seg.body with
  | .move _ _ _ reportOnEnd | .dwell _ reportOnEnd =>
    if reportOnEnd then some (.segmentDone a c.seg.tag x.position) else none
  | .seek .. => if c.watch = some .found then none else some (.seekResult a c.seg.tag false c.stepsDone none none)
  | .mark => some (.markReached a c.seg.tag x.position x.encoder.position)

/-- The active segment completes: its report, then its removal (R38, R21). -/
def State.completeActive (s : State) (a : AxisId) : State :=
  match (s.axis a).ctx with
  | none => s
  | some c => (s.report? (completionReport? a (s.axis a) c)).removeHead a

/-- The active segment, if any, is aborted: Segment Aborted, then its removal (R65 step 2, R122 step 3). -/
def State.abortActive (s : State) (a : AxisId) (reason : AbortReason) : State :=
  match (s.axis a).ctx with
  | none => s
  | some c => (s.report (.segmentAborted a c.seg.tag reason c.stepsDone)).removeHead a

/-- The axis enters HELD with current rate 0 (R59, R60). -/
def State.enterHeld (s : State) (a : AxisId) : State := s.modAxis a fun x => { x with st := .held, rate := 0 }

/-- An axis reaches READY through Stop Axis: rate 0, abort with reason STOPPED, READY, then the owed flush (R65). -/
def State.reachReady (s : State) (a : AxisId) : State :=
  let s := s.modAxis a fun x => { x with rate := 0 }
  let s := s.abortActive a .stopped
  let s := s.modAxis a fun x => { x with st := .ready, ena := true }
  if (s.axis a).owedFlush then (s.dropTail a 0).modAxis a fun x => { x with owedFlush := false } else s

/-- An axis enters FAULT: rate 0, the active segment, if any, aborted with reason FAULT, an owed flush given up, ENA at the level
the entry sets (R122, R124, R125, R128). -/
def State.enterFault (s : State) (a : AxisId) (ena : Bool) : State :=
  let s := s.modAxis a fun x => { x with rate := 0 }
  let s := s.abortActive a .fault
  s.modAxis a fun x => { x with st := .fault, ena := ena, owedFlush := false }

/-! ## The end of a brake outside RUN (R55, R56, R74) -/

/-- A hold brake completes by its own end: a settle completes the seek (R74); any other segment is kept PAUSED with its watch
CLOSED (R59, R71). -/
def State.holdBrakeDone (s : State) (a : AxisId) (c : Ctx) : State :=
  if c.phase = .settle then (s.completeActive a).enterHeld a
  else (s.modAxis a fun x => { x with ctx := some { c with phase := .paused, brake := none }.closeWatch }).enterHeld a

/-- What the end of a brake does in HOLDING, STOPPING and FAULT_BRAKE; nothing while the brake goes on or in any other state. -/
def State.settleBrake (s : State) (a : AxisId) : State :=
  match (s.axis a).ctx with
  | none => s
  | some c =>
    match c.brakeEnd with
    | .running => s
    | .exhausted =>
      match (s.axis a).st with
      | .holding => (s.completeActive a).enterHeld a
      | .stopping => (s.completeActive a).reachReady a
      | .faultBrake => (s.completeActive a).enterFault a (s.axis a).enaAfterBrake
      | .off | .ready | .run | .gate | .held | .fault => s
    | .completed =>
      match (s.axis a).st with
      | .holding => s.holdBrakeDone a c
      | .stopping => s.reachReady a
      | .faultBrake => s.enterFault a (s.axis a).enaAfterBrake
      | .off | .ready | .run | .gate | .held | .fault => s

/-! ## Raising a cause (R117, R121 to R127) -/

/-- The policy that governs a cause (R120). -/
def Protection.policy (p : Protection) : Cause → Policy
  | .limitPos | .limitNeg => p.limitPolicy
  | .drive => p.drivePolicy
  | .follow => p.followPolicy
  | .encoder => p.encoderPolicy
  | .trip => p.tripPolicy
  | .silence => p.silencePolicy

/-- The fault record of a first cause, filled from the axis as it stands (R121). -/
def State.faultRecordOf (s : State) (a : AxisId) (cause : Cause) : FaultRecord :=
  let x := s.axis a
  { first := cause
    additional := 0
    time := s.deviceTime
    position := x.position
    encoder := x.encoder.position
    fe := x.fe
    activeTag := x.ctx.map (·.seg.tag)
    stateAt := x.st }

/-- The brake of a fault: one that runs goes on, otherwise one begins from the current rate; the watch closes (R123). -/
def Ctx.faultBrake (rate : Nat) (set : AxisSettings) (c : Ctx) : Ctx :=
  (if c.brake.isSome then c else c.beginBrake .brake rate set).closeWatch

/-- Entry into FAULT_BRAKE of a stepping axis: the owed flush is given up and the ENA level of its end is fixed (R123). -/
def Axis.enterFaultBrake (x : Axis) : Axis :=
  { x with
    st := .faultBrake
    ctx := x.ctx.map (Ctx.faultBrake x.rate x.settings)
    owedFlush := false
    enaAfterBrake := x.protection.keepEnable }

/-- A first cause: record, Fault Raised, then the policy's effect (R121 to R124). -/
def State.firstCause (s : State) (a : AxisId) (cause : Cause) : State :=
  let x := s.axis a
  let s := s.modAxis a fun y => { y with faultRecord := some (s.faultRecordOf a cause) }
  let s := s.report (.faultRaised a cause x.position x.encoder.position x.fe (x.ctx.map (·.seg.tag)))
  match x.protection.policy cause with
  | .halt => (s.withdraw a).enterFault a false
  | .brake =>
    if x.stepping then (s.modAxis a Axis.enterFaultBrake).settleBrake a
    else (s.withdraw a).enterFault a x.protection.keepEnable

/-- A cause joins the additional causes (R127). -/
def FaultRecord.add (cause : Cause) (r : FaultRecord) : FaultRecord := { r with additional := r.additional ||| cause.bit }

/-- A later cause: it joins the record, and a HALT policy cuts a fault brake (R127). -/
def State.laterCause (s : State) (a : AxisId) (cause : Cause) : State :=
  let s := s.modAxis a fun x => { x with faultRecord := x.faultRecord.map (FaultRecord.add cause) }
  if (s.axis a).st = .faultBrake && (s.axis a).protection.policy cause = .halt then s.enterFault a false else s

/-- A cause is raised on an axis (R117). -/
def State.raiseCause (s : State) (a : AxisId) (cause : Cause) : State :=
  match (s.axis a).st with
  | .off => s
  | .faultBrake | .fault => s.laterCause a cause
  | .ready | .run | .gate | .holding | .held | .stopping => s.firstCause a cause

/-- The axis takes a SILENCE on its way to it (R161). -/
def State.takeSilence (s : State) (a : AxisId) : State :=
  if (s.axis a).silencePending then
    (s.modAxis a fun x => { x with silencePending := false }).raiseCause a .silence
  else s

/-- Every axis takes a SILENCE on its way to it, in ascending number (R161; the order is a DESIGN CHOICE, log 14; unsafe). -/
def State.takeSilences (s : State) : State := (((s.takeSilence 0).takeSilence 1).takeSilence 2).takeSilence 3

/-- The evaluation of the following error at a change of position hands FOLLOW on (R90, R91). -/
def State.evaluateFollow (s : State) (a : AxisId) : State :=
  if (s.axis a).followExceeded then s.raiseCause a .follow else s

end Sys2Proof.Machine
end

