-- ==== Sys2Proof/Machine/Motion.lean ====
section
/-!
DEFINITION. Machine/Motion.lean: how a head begins, arrives at a barrier and is released (spec 02 R32, R33; 06 R102, R103), how a
step falls due, is checked and issued, and what it does to its segment (02 R34 to R41; 03 R54, R55; 04 R74, R75).

What one beginning or one step sets going inside one event is a list of tasks, worked off depth first (R33, R104, log 27). A task
changes the state and may put further tasks before the rest.
-/

namespace Sys2Proof.Machine

/-- A piece of work inside one event. -/
inductive Task
  /-- begin the head of a queue (R32); `carry` is the last step time carried by a seamless hand-over (R37) -/
  | beginHead (a : AxisId) (carry : Option Nat)
  /-- the head becomes active (R32 step 2) -/
  | activate (a : AxisId) (carry : Option Nat)
  /-- a step falls due now -/
  | stepNow (a : AxisId)
deriving DecidableEq, Repr

/-! ## Beginning a head -/

/-- An axis in no arrival set (R102). -/
def State.inNoArrivalSet (s : State) (a : AxisId) : Bool := s.groups.toList.all fun g => !inSet g.arrived a

/-- The occasions on which a head begins or is activated: READY, HELD, RUN or GATE with no active segment (R32), and not waiting
at a barrier (R102). -/
def State.mayBegin (s : State) (a : AxisId) : Bool :=
  let x := s.axis a
  x.ctx.isNone && (x.st = .ready || x.st = .held || x.st = .run || x.st = .gate) && s.inNoArrivalSet a

/-- The axis is RUN, starved (R40). -/
def State.starve (s : State) (a : AxisId) : State := s.modAxis a fun x => { x with st := .run, rate := 0 }

/-- The context of a head that becomes active (R28, R32 step 2, R69): only a MOVE or SEEK has a last step time. -/
def newCtx (seg : Segment) (carry : Option Nat) : Ctx where
  seg := seg
  phase := match seg.body with
    | .dwell .. => .timing
    | .move .. | .seek .. | .mark => .stepping
  stepsDone := 0
  dwellLeft := match seg.body with
    | .dwell duration _ => duration
    | .move .. | .seek .. | .mark => 0
  lastStep := if seg.body.makesSteps then carry else none
  brake := none
  rampSteps := 0
  delayed := none
  watch := if seg.body.isSeek then some .opened else none
  captured := none
  edgePending := false

/-- The axes of a set in ascending number. -/
def axesOf (set : BitVec 4) : List AxisId := [0, 1, 2, 3].filter (inSet set ·)

/-- Release: the arrival set emptied, the timer stopped, the round raised, Group Released if the flag is set; then every member's
head is to be activated in ascending axis number (R103). -/
def State.release (s : State) (g : GroupId) : State × List Task :=
  let x := s.group g
  let s := s.setGroup g { x with arrived := 0, timer := none, round := x.round + 1 }
  let s := if x.releaseReport then s.report (.groupReleased g (x.round + 1)) else s
  (s, (axesOf x.members).map fun m => .activate m none)

/-- Arrival at the barrier of `g` (R102): standstill, the arrival set, the timer of a first arrival, then release or GATE. -/
def State.arrive (s : State) (a : AxisId) (g : GroupId) : State × List Task :=
  let x := s.group g
  let arrived := x.arrived ||| axisBit a
  let timer := if x.arrived = 0 && x.timeout != 0 then some (s.micros + x.timeout * 1000) else x.timer
  let s := (s.setGroup g { x with arrived := arrived, timer := timer }).modAxis a fun y => { y with rate := 0 }
  if arrived = x.members then s.release g
  else (s.modAxis a fun y => { y with st := .gate }, [])

/-- To begin the head of a queue (R32): starved without one (R40), arrival for a gated head, activation otherwise. -/
def State.beginHead (s : State) (a : AxisId) (carry : Option Nat) : State × List Task :=
  if s.mayBegin a then
    match (s.axis a).queue with
    | [] => (s.starve a, [])
    | seg :: _ =>
      match seg.gate with
      | some g => s.arrive a g
      | none => (s, [.activate a carry])
  else (s, [])

/-- The head becomes active and starts by its kind (R32 steps 2 and 3): a MOVE or SEEK from standstill steps at once (R37), a DWELL
is timed (R43), a MARK completes at once and the next head begins in turn (R33, R44). -/
def State.activate (s : State) (a : AxisId) (carry : Option Nat) : State × List Task :=
  if s.mayBegin a then
    match (s.axis a).queue with
    | [] => (s, [])
    | seg :: _ =>
      let carry := if (s.axis a).rate = 0 then none else carry
      let s := s.modAxis a fun x => { x with st := .run, ctx := some (newCtx seg carry) }
      match seg.body with
      | .move .. | .seek .. => (s, if carry.isNone then [.stepNow a] else [])
      | .dwell .. => (s.modAxis a fun x => { x with rate := 0 }, [])
      | .mark => (s.completeActive a, [.beginHead a carry])
  else (s, [])

/-! ## Completion in RUN -/

/-- A MOVE completes in RUN: its report and removal, the Underrun check on an empty queue, then the next head begins, its first step
timed from this one (R38, R39, R41). -/
def State.completeMove (s : State) (a : AxisId) (c : Ctx) (endRate : Nat) : State × List Task :=
  let s := s.completeActive a
  let s :=
    if (s.axis a).queue.isEmpty && (s.axis a).settings.baseRate < endRate then s.report (.underrun a c.seg.tag endRate) else s
  (s, [.beginHead a c.lastStep])

/-- A segment completes in RUN with the axis at standstill, and the next head begins: a DWELL (R43), a found SEEK (R74). -/
def State.completeAtRest (s : State) (a : AxisId) : State × List Task :=
  ((s.completeActive a).modAxis a fun x => { x with rate := 0 }, [.beginHead a none])

/-- What an issued step does to its segment or its brake, after the evaluation of the following error (R90). -/
def State.stepEffects (s : State) (a : AxisId) : State × List Task :=
  match (s.axis a).ctx with
  | none => (s, [])
  | some c =>
    if (s.axis a).st = .run then
      if c.phase = .settle then
        match c.brakeEnd with
        | .running => (s, [])
        | .exhausted | .completed => s.completeAtRest a
      else if c.seg.body.total ≤ c.stepsDone then
        match c.seg.body with
        | .move _ _ endRate _ => s.completeMove a c endRate
        | .seek .. => ((s.completeActive a).enterHeld a, [])
        | .dwell .. | .mark => (s, [])
      else (s, [])
    else (s.settleBrake a, [])

/-! ## One step -/

/-- The commanded position one step on (R34). -/
def stepPosition (dir : Dir) (p : Word32) : Word32 :=
  match dir with
  | .positive => p + 1
  | .negative => p - 1

/-- The context after a step issued at `now` (R34, R54, R62). -/
def Ctx.afterStep (now : Nat) (c : Ctx) : Ctx :=
  { c with
    stepsDone := c.stepsDone + 1
    lastStep := some now
    brake := match c.phase with
      | .brake | .settle => c.brake.map fun b => { b with issued := b.issued + 1 }
      | .stepping | .timing | .ramp | .paused => c.brake
    rampSteps := if c.phase = .ramp then c.rampSteps + 1 else c.rampSteps
    delayed := none }

/-- An issued step (R34): the pulse begins; position, steps done, rate, last step direction and last step time change. -/
def Axis.issueStep (now : Nat) (c : Ctx) (x : Axis) : Axis :=
  { (x.endPulseIfOver now).beginPulse now with
    position := stepPosition c.seg.body.dir x.position
    rate := c.nextRate x.settings
    lastDir := c.seg.body.dir
    ctx := some (c.afterStep now) }

/-- A step is issued, the following error is evaluated, then the step's own effects follow (R34, R90). -/
def State.issueStep (s : State) (a : AxisId) : State × List Task :=
  match (s.axis a).ctx with
  | none => (s, [])
  | some c => ((s.modAxis a (Axis.issueStep s.clock c)).evaluateFollow a).stepEffects a

/-- The limit input and cause of a direction (R118). -/
def limitOf : Dir → AxisInput × Cause
  | .positive => (.limp, .limitPos)
  | .negative => (.limn, .limitNeg)

/-- The limit check at the moment a step would be issued (R118): in FAULT_BRAKE the cause is a later one and only its HALT withholds
the step; elsewhere the step is withheld and the cause is raised. -/
def State.attemptStep (s : State) (a : AxisId) : State × List Task :=
  match (s.axis a).ctx with
  | none => (s, [])
  | some c =>
    let s := s.modAxis a fun x => { x with ctx := some { c with delayed := none } }
    if (s.axis a).inputActive (limitOf c.seg.body.dir).1 then
      let inFaultBrake := (s.axis a).st = .faultBrake
      let s := s.raiseCause a (limitOf c.seg.body.dir).2
      if inFaultBrake && (s.axis a).st = .faultBrake then s.issueStep a else (s, [])
    else s.issueStep a

/-- When DIR changes for a step in direction `dir` that falls due now, if it must: at once while STEP is low, else at the end of the
pulse (R171; the worked example of 04 section 4.7 has DIR change while STEP is high: DESIGN CHOICE, log 32; unsafe). -/
def Axis.dirChangeAt (now : Nat) (dir : Dir) (x : Axis) : Option Nat :=
  if x.output.dirShown = dir then none else some (if x.output.high then x.output.pulseEnd else now)

/-- The earliest clock for the pulse of a step in direction `dir` that falls due now: the DIR lead after the DIR change, and the pulse
spacing (R170, R171; worked example 4.7 issues a step before both are met: DESIGN CHOICE, log 32; unsafe). A direction that DIR already
shows but the last step had not is led from the change made before (log 12). -/
def Axis.issueTime (now : Nat) (dir : Dir) (x : Axis) : Nat :=
  let lead := Config.quartersPerMicro * x.settings.dirLead
  let led :=
    match x.dirChangeAt now dir with
    | some t => t + lead
    | none => if dir = x.lastDir then now else x.output.dirChangedAt + lead
  max now (max led x.output.nextPulse)

/-- What a step in direction `dir` that falls due now does to DIR: a change at once while STEP is low, else at the end of the pulse;
no change for the direction shown, and one that waited for another step's sake is given up (R171; DEDUCED, log 13). -/
def Axis.turnDir (now : Nat) (dir : Dir) (x : Axis) : Axis :=
  { x with
    output :=
      if x.output.dirShown = dir then { x.output with turnTo := none }
      else if x.output.high then { x.output with turnTo := some dir }
      else x.output.turn now dir }

/-- A step falls due now (R34, R37): it is attempted at once, or delayed by the DIR lead or the pulse spacing (R35, R170). -/
def State.stepFallsDue (s : State) (a : AxisId) : State × List Task :=
  let x := (s.axis a).endPulseIfOver s.clock
  match x.ctx with
  | none => (s, [])
  | some c =>
    if x.stepping && c.hasNextStep && c.delayed.isNone then
      let dir := c.seg.body.dir
      let due := x.issueTime s.clock dir
      let x := x.turnDir s.clock dir
      if due ≤ s.clock then (s.setAxis a x).attemptStep a
      else (s.setAxis a { x with ctx := some { c with delayed := some due } }, [])
    else (s, [])

/-! ## Working off the tasks of one event -/

/-- One task. -/
def State.runTask (s : State) : Task → State × List Task
  | .beginHead a carry => s.beginHead a carry
  | .activate a carry => s.activate a carry
  | .stepNow a => s.stepFallsDue a

/-- Tasks worked off depth first, at most `fuel` of them. -/
def State.runTasks : Nat → List Task → State → State
  | 0, _, s => s
  | _ + 1, [], s => s
  | fuel + 1, t :: ts, s => State.runTasks fuel ((s.runTask t).2 ++ ts) (s.runTask t).1

/-- A task's share of the fuel: a beginning may release four heads, a step may begin one. -/
def Task.weight : Task → Nat
  | .beginHead .. => 5
  | .activate .. => 1
  | .stepNow .. => 6

/-- Segments that are not active, on an axis. -/
def Axis.waiting (x : Axis) : Nat := if x.ctx.isSome then x.queue.length - 1 else x.queue.length

/-- Enough fuel for every task of one event: each activation uses up one waiting segment (log 27). -/
def State.fuel (s : State) (ts : List Task) : Nat :=
  6 * ((s.axis 0).waiting + (s.axis 1).waiting + (s.axis 2).waiting + (s.axis 3).waiting) + (ts.map Task.weight).sum

/-- Everything that a list of tasks sets going inside one event. -/
def State.settle (s : State) (ts : List Task) : State := State.runTasks (s.fuel ts) ts s

/-- A change of the state together with the tasks it leaves, worked off. -/
def settleAll (r : State × List Task) : State := r.1.settle r.2

end Sys2Proof.Machine
end

