-- ==== Sys2Proof/Machine/Requests.lean ====
section
/-!
DEFINITION. Machine/Requests.lean: how the decoder takes the oldest frame of the receive buffer, checks it and answers it
(spec 09 R156 to R158), shared by every request. A request whose frame cannot be taken now leaves everything as it is (log 1).
-/

namespace Sys2Proof.Machine

/-- The codes of the 25 requests (R181). -/
def requestCodes : List Byte :=
  [0x10, 0x11, 0x12, 0x13, 0x20, 0x21, 0x22, 0x23, 0x24, 0x25, 0x26, 0x30, 0x31, 0x38, 0x39, 0x40, 0x41, 0x42, 0x50, 0x51,
   0x52, 0x53, 0x60, 0x61, 0x62]

/-- The decoder may take a frame: the reply slot is empty and no Reset Device waits for its reply (R156, R165). R178 speaks of a
Configure Axis taken meanwhile; none is (DEDUCED, log 30; safe). -/
def State.decoderReady (s : State) : Bool := s.power = .on && s.link.replySlot.isNone && !s.link.resetPending

/-- The frame's sequence is the one of a valid duplicate record (R156). -/
def State.isDuplicate (s : State) (f : Frame) : Bool := s.link.dup.valid && s.link.dup.seq = f.seq

/-- The silence timer restarts, if the silence timeout is not 0 (R161). -/
def State.restartSilence (s : State) : State :=
  if s.link.silenceTimeout = 0 then s
  else s.modLink fun l => { l with silenceTimer := some (s.micros + l.silenceTimeout * 1000) }

/-- Taking removes the frame from the buffer; the silence timer then restarts (R156). -/
def State.takeFrame (s : State) (rest : List Frame) : State :=
  (s.modLink fun l => { l with rxBuffer := rest }).restartSilence

/-- The reply of a new request is placed in the reply slot and copied into the duplicate record (R156, R160). -/
def State.placeReply (s : State) (f : Frame) (payload : List Byte) : State :=
  s.modLink fun l =>
    { l with
      replySlot := some ⟨⟨f.seq, f.code, payload⟩, false⟩
      dup := ⟨true, f.seq, ⟨f.seq, f.code, payload⟩⟩ }

/-- What a request does: from its payload and the state, the new state and the reply payload, status first. -/
abbrev Handler := List Byte → State → State × List Byte

/-- A refusal that carries the status alone (R158). -/
def refuse (s : State) (status : Status) : State × List Byte := (s, [status.code])

/-- The decoder takes the oldest frame if it is a new request with this code, executes it and places its reply (R156, R157). A SILENCE
on its way is taken first, so the request meets the axes as the fault left them (R161, log 14). -/
def State.takeRequest (s : State) (code : Byte) (h : Handler) : State :=
  match s.link.rxBuffer with
  | [] => s
  | f :: rest =>
    if s.decoderReady && !s.isDuplicate f && f.code = code then
      let r := h f.payload (s.takeSilences.takeFrame rest)
      r.1.placeReply f r.2
    else s

/-- Check 2 of R157: the payload has the length the request requires. -/
def checkLength (n : Nat) (h : Handler) : Handler := fun p s => if p.length = n then h p s else refuse s .badLength

/-- Check 3 of R157 for a request that names an axis in its first byte. -/
def onAxis (h : AxisId → Handler) : Handler := fun p s =>
  match axisOf (byteAt p 0) with
  | none => refuse s .badIndex
  | some a => h a p s

/-- Check 3 of R157 for a request that names a group in its first byte. -/
def onGroup (h : GroupId → Handler) : Handler := fun p s =>
  match groupOf (byteAt p 0) with
  | none => refuse s .badIndex
  | some g => h g p s

/-- The reply OK and the axis state as it stands when the reply is formed (R31, R183). -/
def replyState (s : State) (a : AxisId) : State × List Byte := (s, [Status.ok.code, (s.axis a).st.code])

end Sys2Proof.Machine
end

