-- ==== Sys2Proof/Machine/AxisRequests.lean ====
section
/-!
DEFINITION. Machine/AxisRequests.lean: Enable, Disable and Start Axis (spec 02), Hold, Resume and Stop Axis (03), Set Position (05).
-/

namespace Sys2Proof.Machine

/-- Enable Axis (R29). -/
def enableAxis : Handler := checkLength 1 <| onAxis fun a _ s =>
  if (s.axis a).st ≠ .off then refuse s .state
  else if (s.axis a).inputActive .dflt then refuse s .causeActive
  else (s.modAxis a fun x => { x with st := .ready, ena := true }, [Status.ok.code])

/-- Disable Axis (R30). -/
def disableAxis : Handler := checkLength 1 <| onAxis fun a _ s =>
  if (s.axis a).st ≠ .ready then refuse s .state
  else (s.modAxis a fun x => { x with st := .off, ena := false, rate := 0 }, [Status.ok.code])

/-- Start Axis (R31): the head begins; everything this sets going is done before the reply is formed. -/
def startAxis : Handler := checkLength 1 <| onAxis fun a _ s =>
  if (s.axis a).st ≠ .ready then refuse s .state
  else replyState (s.settle [.beginHead a none]) a

/-- Hold of an axis in RUN or GATE (R58, R77). -/
def State.hold (s : State) (a : AxisId) : State :=
  let x := s.axis a
  match x.ctx with
  | none => (s.withdraw a).enterHeld a
  | some c =>
    if c.seg.body.makesSteps then
      let c := if c.phase = .settle then c else c.beginBrake .brake x.rate x.settings
      (s.setAxis a { x with st := .holding, ctx := some c }).settleBrake a
    else (s.setAxis a { x with ctx := some { c with phase := .paused } }).enterHeld a

/-- Hold Axis (R58). -/
def holdAxis : Handler := checkLength 1 <| onAxis fun a _ s =>
  if (s.axis a).st = .run || (s.axis a).st = .gate then replyState (s.hold a) a else refuse s .state

/-- The kept watch of a held seek opens again (R71, R77). -/
def Ctx.openWatch (c : Ctx) : Ctx := { c with watch := c.watch.map fun w => if w = .closed then .opened else w }

/-- Resume of an axis in HELD (R61, R63): a held MOVE or SEEK on the resume ramp with its first step at once, a held DWELL from its
time left, otherwise the head begins. -/
def State.resume (s : State) (a : AxisId) : State :=
  let x := s.axis a
  match x.ctx with
  | none => s.settle [.beginHead a none]
  | some c =>
    if c.seg.body.makesSteps then
      (s.setAxis a { x with st := .run, ctx := some { c with phase := .ramp, rampSteps := 0 }.openWatch }).settle [.stepNow a]
    else
      let s := s.setAxis a { x with st := .run, ctx := some { c with phase := .timing } }
      if c.dwellLeft = 0 then settleAll (s.completeAtRest a) else s

/-- Resume Axis (R61). -/
def resumeAxis : Handler := checkLength 1 <| onAxis fun a _ s =>
  if (s.axis a).st ≠ .held then refuse s .state else replyState (s.resume a) a

/-- Stop with BRAKE (R64, R66, R78): a stepping axis in RUN or HOLDING brakes in STOPPING with its watch CLOSED; STOPPING is left as
it is; any other axis reaches READY at once. -/
def State.stopBrake (s : State) (a : AxisId) (flush : Bool) : State :=
  let x := s.axis a
  if x.st = .stopping then s
  else
    match (if x.stepping then x.ctx else none) with
    | some c =>
      let c := if c.brake.isSome then c else c.beginBrake .brake x.rate x.settings
      (s.setAxis a { x with st := .stopping, ctx := some c.closeWatch, owedFlush := flush }).settleBrake a
    | none => ((s.withdraw a).modAxis a fun y => { y with owedFlush := flush }).reachReady a

/-- Stop with HALT (R64, R66): READY at once; a flush is owed if this Stop or the one that brought the axis to STOPPING says so. -/
def State.stopHalt (s : State) (a : AxisId) (flush : Bool) : State :=
  ((s.withdraw a).modAxis a fun x => { x with owedFlush := flush || (x.st = .stopping && x.owedFlush) }).reachReady a

/-- The states in which Stop Axis is refused (R64). -/
def AxisState.refusesStop : AxisState → Bool
  | .off | .ready | .faultBrake | .fault => true
  | .run | .gate | .holding | .held | .stopping => false

/-- Stop Axis (R64): mode 0 BRAKE, 1 HALT; flag bit 0 flush. -/
def stopAxis : Handler := checkLength 3 <| onAxis fun a p s =>
  match twoValued (byteAt p 1) with
  | none => refuse s .badParam
  | some halt =>
    if (s.axis a).st.refusesStop then refuse s .state
    else
      let flush := flag (byteAt p 2) 0
      replyState (if halt then s.stopHalt a flush else s.stopBrake a flush) a

/-- Set Position (R93, R94): one change, then one evaluation of the following error. -/
def setPosition : Handler := checkLength 6 <| onAxis fun a p s =>
  let x := s.axis a
  if x.st = .off || x.st = .ready || x.st = .fault then
    let position : Word32 := BitVec.ofNat 32 (field p 1 4)
    let encoder :=
      if flag (byteAt p 5) 0 && x.settings.encoderEnable then BitVec.ofNat 32 x.settings.countsPerStep * position
      else x.encoder.position
    let t := (s.setAxis a { x with position := position, encoder := { x.encoder with position := encoder } }).evaluateFollow a
    (t, Status.ok.code :: bytes32 position ++ bytes32 encoder)
  else refuse s .state

/-- ENABLE_AXIS (R29). -/
def execEnableAxis (s : State) : Host.Outcome State Fault Refusal := .next (s.takeRequest 0x20 enableAxis)

/-- DISABLE_AXIS (R30). -/
def execDisableAxis (s : State) : Host.Outcome State Fault Refusal := .next (s.takeRequest 0x21 disableAxis)

/-- START_AXIS (R31). -/
def execStartAxis (s : State) : Host.Outcome State Fault Refusal := .next (s.takeRequest 0x22 startAxis)

/-- HOLD_AXIS (R58). -/
def execHoldAxis (s : State) : Host.Outcome State Fault Refusal := .next (s.takeRequest 0x23 holdAxis)

/-- RESUME_AXIS (R61). -/
def execResumeAxis (s : State) : Host.Outcome State Fault Refusal := .next (s.takeRequest 0x24 resumeAxis)

/-- STOP_AXIS (R64). -/
def execStopAxis (s : State) : Host.Outcome State Fault Refusal := .next (s.takeRequest 0x25 stopAxis)

/-- SET_POSITION (R93). -/
def execSetPosition (s : State) : Host.Outcome State Fault Refusal := .next (s.takeRequest 0x26 setPosition)

end Sys2Proof.Machine
end

