-- ==== Sys2Proof/Machine/GroupRequests.lean ====
section
/-!
DEFINITION. Machine/GroupRequests.lean: Define Group and Read Group Status (spec 06), Configure Protection and Clear Fault (07).
-/

namespace Sys2Proof.Machine

/-- Define Group (R100). -/
def defineGroup : Handler := checkLength 5 <| onGroup fun g p s =>
  let members : BitVec 4 := (byteAt p 1).setWidth 4
  let timeout := field p 2 2
  let releaseReport := flag (byteAt p 4) 0
  if setSize members = 1 then refuse s .badParam
  else if 60000 < timeout then refuse s .badParam
  else if (s.group g).refCount ≠ 0 then refuse s .groupInUse
  else
    (s.modGroup g fun x => { x with members := members, timeout := timeout, releaseReport := releaseReport },
      [Status.ok.code, groupByte g, members.setWidth 8] ++ leBytes 2 timeout ++ [flagBit 0 releaseReport]
        ++ bytes16 (s.group g).round)

/-- The time left of a timer in ms, absent when it is stopped and then sent as 0 (R101, R163, R180). -/
def State.timeLeft (s : State) (timer : Option Nat) : Nat := (timer.map s.msLeft).getD 0

/-- Read Group Status (R101, R183). -/
def readGroupStatus : Handler := checkLength 1 <| onGroup fun g _ s =>
  let x := s.group g
  (s, [Status.ok.code, x.members.setWidth 8, x.arrived.setWidth 8, BitVec.ofNat 8 x.refCount] ++ bytes16 x.round
    ++ leBytes 2 x.timeout ++ [flagBit 0 x.releaseReport ||| flagBit 1 x.timer.isSome] ++ leBytes 2 (s.timeLeft x.timer))

/-- Configure Protection (R130). -/
def configureProtection : Handler := checkLength 11 <| onAxis fun a p s =>
  match readProtection p with
  | none => refuse s .badParam
  | some protection =>
    (s.modAxis a fun x => { x with protection := protection }, Status.ok.code :: protection.bytes)

/-- Clear Fault (R131): the record is removed, the axis enters READY with ENA active, and the queue is emptied if asked. -/
def clearFault : Handler := checkLength 2 <| onAxis fun a p s =>
  let x := s.axis a
  if x.st ≠ .fault then refuse s .state
  else if x.inputActive .dflt then refuse s .causeActive
  else if s.tripActive && x.protection.tripEnable then refuse s .causeActive
  else
    let t := s.modAxis a fun y => { y with st := .ready, ena := true, faultRecord := none }
    let t := if flag (byteAt p 1) 0 then t.dropTail a 0 else t
    (t, [Status.ok.code, (t.axis a).st.code, ((x.faultRecord.map fun r => BitVec.ofNat 8 r.first.code).getD 0),
      ((x.faultRecord.map fun r => r.additional).getD 0), BitVec.ofNat 8 (t.axis a).depth])

/-- DEFINE_GROUP (R100). -/
def execDefineGroup (s : State) : Host.Outcome State Fault Refusal := .next (s.takeRequest 0x30 defineGroup)

/-- READ_GROUP_STATUS (R101). -/
def execReadGroupStatus (s : State) : Host.Outcome State Fault Refusal := .next (s.takeRequest 0x31 readGroupStatus)

/-- CONFIGURE_PROTECTION (R130). -/
def execConfigureProtection (s : State) : Host.Outcome State Fault Refusal := .next (s.takeRequest 0x38 configureProtection)

/-- CLEAR_FAULT (R131). -/
def execClearFault (s : State) : Host.Outcome State Fault Refusal := .next (s.takeRequest 0x39 clearFault)

end Sys2Proof.Machine
end

