-- ==== Sys2Proof/Machine/InputEvents.lean ====
section
/-!
DEFINITION. Machine/InputEvents.lean: raw input changes and the deliveries of the Input Conditioner (spec 10 R173, R174), and what
the consumers do with them (07 R118, R119; 04 R70 to R73; 05 R84, R85, R87, R88).
A delivery takes place at the end of its filter time (log 4); without a filter time running it does not (log 1).
-/

namespace Sys2Proof.Machine

/-- A raw level while the Input Conditioner does not run: no filter timing (R166, R173). -/
def InputLine.rawOnly (level : Bool) (l : InputLine) : InputLine := { l with raw := level }

/-- RAW_INPUT_CHANGE (R173, R174); a strap has no filter and is read at a device reset alone (R151). -/
def execRawInputChange (p : InputPin) (level : Bool) (s : State) : Host.Outcome State Fault Refusal :=
  .next
    (match p with
    | .axis a i =>
      s.modAxis a fun x =>
        { x with
          inputs := x.inputs.setLine i
            (if s.power = .on then (x.inputs.line i).rawChange s.clock (x.settings.filterTime i) level
             else (x.inputs.line i).rawOnly level) }
    | .trip =>
      { s with trip := if s.power = .on then s.trip.rawChange s.clock tripFilterTime level else s.trip.rawOnly level }
    | .baud1 => { s with straps := { s.straps with baud1 := level } }
    | .baud0 => { s with straps := { s.straps with baud0 := level } })

/-- The clock at which an input's filter time runs out. -/
def State.inputDue (s : State) (a : AxisId) (i : AxisInput) : Option Nat :=
  ((s.axis a).inputs.line i).due

/-- The input of a limit (R118). -/
def limitInputOf : LimitInput → AxisInput
  | .positive => .limp
  | .negative => .limn

/-- LIMIT_INPUT_CHANGE: the level is kept for the limit check (R118, R173). -/
def execLimitInputChange (a : AxisId) (which : LimitInput) (s : State) : Host.Outcome State Fault Refusal :=
  .next
    (match s.inputDue a (limitInputOf which) with
    | none => s
    | some q => (s.passTo q).deliverInput a (limitInputOf which))

/-- DFLT_CHANGE: DRIVE is raised when DFLT becomes active (R119). -/
def execDfltChange (a : AxisId) (s : State) : Host.Outcome State Fault Refusal :=
  .next
    (match s.inputDue a .dflt with
    | none => s
    | some q =>
      let s := (s.passTo q).deliverInput a .dflt
      if (s.axis a).inputActive .dflt then s.raiseCause a .drive else s)

/-- TRIP_CHANGE: delivered to all four axes; on becoming active it goes to each axis whose trip-enable is set (R119, R174). One that
comes while a TRIP is still on its way to an axis merges into it, and a TRIP on its way survives TRIP becoming inactive (DESIGN
CHOICE, log 14; unsafe). -/
def execTripChange (s : State) : Host.Outcome State Fault Refusal :=
  .next
    (match s.trip.due with
    | none => s
    | some q =>
      let s := s.passTo q
      let s := { s with trip := s.trip.deliver s.clock tripFilterTime }
      if s.tripActive then
        s.modAxes fun _ x => { x with tripPending := x.tripPending || x.protection.tripEnable }
      else s)

/-- TRIP_CAUSE: one axis with trip-enable set takes the TRIP on its way to it (R119, R130, log 14). -/
def execTripCause (a : AxisId) (s : State) : Host.Outcome State Fault Refusal :=
  .next
    (if (s.axis a).tripPending then
      let s := s.modAxis a fun x => { x with tripPending := false }
      if (s.axis a).protection.tripEnable then s.raiseCause a .trip else s
    else s)

/-! ## Seek triggers (R70 to R73) -/

/-- Does a change of `source` to this level find an open watch of the axis that it is the trigger edge of (R70, R71)? -/
def Axis.watches (x : Axis) (source : TrigSource) (toActive : Bool) : Bool :=
  (x.st = .run || x.st = .holding) && x.ctx.any fun c =>
    c.watch = some .opened &&
      match c.seg.body with
      | .seek _ _ _ src edge => src = source && (edge = .toActive) = toActive
      | .move .. | .dwell .. | .mark => false

/-- The level that an input changes to at the end of its filter time is active. -/
def Axis.nextActive (x : Axis) (i : AxisInput) : Bool := (!(x.inputs.line i).filtered) == x.settings.activeHigh i

/-- The context of a found seek: captures, watch FOUND, phase SETTLE; in RUN a brake begins, in HOLDING the hold brake goes on (R72,
R73). -/
def Axis.foundCtx (x : Axis) (c : Ctx) : Ctx :=
  let c := if x.st = .run then c.beginBrake .settle x.rate x.settings else { c with phase := .settle }
  { c with
    watch := some .found
    captured := some (x.position, if x.settings.encoderEnable then some x.encoder.position else none)
    edgePending := false }

/-- The trigger edge of an open watch (R72): captures, Seek Result FOUND, then the settle; one of no steps completes at once (R73). -/
def State.triggerFound (s : State) (a : AxisId) : State :=
  let x := s.axis a
  match x.ctx with
  | none => s
  | some c =>
    let s := s.modAxis a fun y => { y with ctx := some (x.foundCtx c) }
    let s := s.report (.seekResult a c.seg.tag true c.stepsDone (some x.position)
      (if x.settings.encoderEnable then some x.encoder.position else none))
    settleAll (s.stepEffects a)

/-- ENCI is delivered: an active edge goes to the Encoder Interface, a trigger edge to the seek watch, each in its own event (R88,
log 15). -/
def State.deliverEnci (s : State) (a : AxisId) : State :=
  let active := (s.axis a).nextActive .enci
  let trigger := (s.axis a).watches .index active
  (s.deliverInput a .enci).modAxis a fun x =>
    { x with
      encoder := { x.encoder with edgePending := x.encoder.edgePending || active }
      ctx := if trigger then x.ctx.map fun c => { c with edgePending := true } else x.ctx }

/-- An index edge on its way to an open watch of the axis. -/
def Axis.triggerPending (x : Axis) : Bool :=
  (x.st = .run || x.st = .holding) && x.ctx.any fun c => c.edgePending && c.watch = some .opened

/-- SEEK_TRIGGER_EDGE (R72): an index edge on its way to the watch, or the change of HOME or ENCI that is the trigger edge. A change
of ENCI is delivered after the edge before it has been taken by the Encoder Interface (log 15). -/
def execSeekTriggerEdge (a : AxisId) (s : State) : Host.Outcome State Fault Refusal :=
  .next
    (if (s.axis a).triggerPending then s.triggerFound a
    else if (s.axis a).watches .home ((s.axis a).nextActive .home) then
      match s.inputDue a .home with
      | none => s
      | some q => ((s.passTo q).deliverInput a .home).triggerFound a
    else if (s.axis a).watches .index ((s.axis a).nextActive .enci) && !(s.axis a).encoder.edgePending then
      match s.inputDue a .enci with
      | none => s
      | some q => ((s.passTo q).deliverEnci a).triggerFound a
    else s)

/-- HOME_INPUT_CHANGE: a change of HOME that is not the trigger edge of an open watch (R70). -/
def execHomeInputChange (a : AxisId) (s : State) : Host.Outcome State Fault Refusal :=
  .next
    (if (s.axis a).watches .home ((s.axis a).nextActive .home) then s
    else
      match s.inputDue a .home with
      | none => s
      | some q => (s.passTo q).deliverInput a .home)

/-! ## The encoder (R84, R85, R87) -/

/-- The index record at an active index edge (R87). -/
def Encoder.indexEdge (e : Encoder) : Encoder :=
  { e with indexPosition := e.position, indexCount := e.indexCount + 1, edgePending := false }

/-- The Encoder Interface takes an active index edge on its way to it (R87). -/
def State.takeIndexEdge (s : State) (a : AxisId) : State :=
  if (s.axis a).encoder.edgePending then
    let s := s.modAxis a fun x => { x with encoder := x.encoder.indexEdge }
    let x := s.axis a
    if x.settings.indexReports then s.report (.indexSeen a x.encoder.indexPosition x.encoder.indexCount) else s
  else s

/-- INDEX_EDGE (R87); a change of ENCI to inactive changes the filtered level alone (log 15). -/
def execIndexEdge (a : AxisId) (s : State) : Host.Outcome State Fault Refusal :=
  .next
    (if (s.axis a).encoder.edgePending then s.takeIndexEdge a
    else
      match s.inputDue a .enci with
      | none => s
      | some q => ((s.passTo q).deliverEnci a).takeIndexEdge a)

/-- The count of a transition from one A/B pair to another: +1 or −1 when one channel changed, none when both or neither did (R84,
R85). A pair is (A, B), true high. -/
def quadCount : Bool × Bool → Bool × Bool → Option Word32
  | (false, false), (true, false) => some 1
  | (true, false), (true, true) => some 1
  | (true, true), (false, true) => some 1
  | (false, true), (false, false) => some 1
  | (false, false), (false, true) => some (-1)
  | (false, true), (true, true) => some (-1)
  | (true, true), (true, false) => some (-1)
  | (true, false), (false, false) => some (-1)
  | (false, false), (true, true) | (true, true), (false, false) | (true, false), (false, true) | (false, true), (true, false)
  | (false, false), (false, false) | (true, false), (true, false) | (true, true), (true, true) | (false, true), (false, true) =>
    none

/-- The pair of filtered levels of ENCA and ENCB. -/
def Axis.encoderPair (x : Axis) : Bool × Bool := (x.inputs.enca.filtered, x.inputs.encb.filtered)

/-- A pair is delivered to an Encoder Interface: counted, or counted as an error (R84, R85); not compared while disabled (R83). -/
def State.takePair (s : State) (a : AxisId) : State :=
  let x := s.axis a
  let pair := x.encoderPair
  match x.encoder.quad with
  | none => s
  | some old =>
    if pair = old then s
    else
      match quadCount old pair with
      | some d =>
        (s.modAxis a fun y =>
          { y with encoder := { y.encoder with position := y.encoder.position + d, quad := some pair } }).evaluateFollow a
      | none =>
        let s := s.modAxis a fun y =>
          { y with encoder := { y.encoder with quad := some pair, errorCount := satInc y.encoder.errorCount } }
        if x.protection.encoderErrorEnable then s.raiseCause a .encoder else s

/-- The clock at which the next pair is delivered: the earlier end of the two filter times (R173). -/
def State.pairDue (s : State) (a : AxisId) : Option Nat :=
  match s.inputDue a .enca, s.inputDue a .encb with
  | none, none => none
  | some p, none => some p
  | none, some q => some q
  | some p, some q => some (min p q)

/-- A channel whose filter time ends at `q` is delivered; two that end at one instant are delivered as one pair (R173). -/
def State.deliverChannel (s : State) (a : AxisId) (i : AxisInput) (q : Nat) : State :=
  if s.inputDue a i = some q then s.deliverInput a i else s

/-- QUADRATURE_TRANSITION (R84, R85, R173). -/
def execQuadratureTransition (a : AxisId) (s : State) : Host.Outcome State Fault Refusal :=
  .next
    (match s.pairDue a with
    | none => s
    | some q => (((s.passTo q).deliverChannel a .enca q).deliverChannel a .encb q).takePair a)

end Sys2Proof.Machine
end

