-- ==== Sys2Proof/WellFormed.lean ====
section
/-!
DEFINITION. WellFormed.lean: which commands name an event that the spec knows. Axis and group numbers are in range by their
types. The one operand with a range of its own is the byte of a length error.
-/

namespace Sys2Proof

/-- A length byte outside 3 to 250 (R152). -/
def badLengthByte (b : Byte) : Bool := b.toNat < 3 || 250 < b.toNat

/-- LENGTH_ERROR names a byte that is no length (R152); every other command is well formed for every operand. -/
def Instr.wellFormed : Instr → Bool
  | .lengthError b => badLengthByte b
  | .loadSegments | .trimQueue | .flushQueue | .configureQueue | .enableAxis | .disableAxis | .startAxis | .holdAxis
  | .resumeAxis | .stopAxis | .setPosition | .defineGroup | .readGroupStatus | .configureProtection | .clearFault
  | .configureReports | .acknowledgeReports | .replayReports | .configureLink | .readLinkStatus | .resetDevice
  | .noOperation | .configureAxis | .readAxisStatus | .readDeviceInfo | .unknownRequest | .duplicate
  | .frameReceived _ | .frameTimeout | .breakRecognised | .linkReset | .replyFrameBegin | .replyFrameEnd
  | .reportFrameBegin | .reportFrameEnd | .retransmitTimerExpiry | .silenceTimerExpiry | .silenceCause _
  | .barrierTimerExpiry _ | .stepDue _ | .delayedStepIssue _ | .stepPulseEnd _ | .dwellExpiry _ | .rawInputChange _ _
  | .limitInputChange _ _ | .dfltChange _ | .tripChange | .tripCause _ | .seekTriggerEdge _ | .indexEdge _
  | .quadratureTransition _ | .powerOn | .resetnAssert | .resetnRelease | .byteDelivered _ | .homeInputChange _
  | .powerLoss => true

end Sys2Proof
end

