-- ==== Sys2Proof/Machine/LinkEvents.lean ====
section
/-!
DEFINITION. Machine/LinkEvents.lean: the receiver, break and link reset, and the transmitter (spec 09 R152 to R155, R159, R165; 08
R141).
-/

namespace Sys2Proof.Machine

/-! ## The receiver (R152, R153) -/

/-- The receiver hunts; no gap is measured (R152). -/
def Link.hunt (l : Link) : Link := { l with receiver := .hunting, gapStart := none }

/-- A complete frame: check value, frame kind, room in the buffer (R153). `bytes` are those behind the length byte. -/
def Link.checkFrame (len : Byte) (bytes : List Byte) (l : Link) : Link :=
  let body := bytes.take len.toNat
  if leNat (bytes.drop len.toNat) ≠ (crc16 (len :: body)).toNat then
    { l with counters := { l.counters with crcErrors := satInc l.counters.crcErrors } }
  else if byteAt body 0 ≠ 1 then l
  else if l.rxBuffer.length < Config.rxFrames then
    { l with rxBuffer := l.rxBuffer ++ [⟨byteAt body 1, byteAt body 2, body.drop 3⟩] }
  else { l with counters := { l.counters with overruns := satInc l.counters.overruns } }

/-- A length byte outside 3 to 250: the partial frame is discarded, and the length error counter rises (R152). -/
def Link.lengthErrorByte (l : Link) : Link :=
  { l.hunt with counters := { l.counters with lengthErrors := satInc l.counters.lengthErrors } }

/-- A byte in BODY: kept; the last one completes the frame, which is checked (R152). -/
def Link.bodyByte (clock : Nat) (len : Byte) (kept : List Byte) (b : Byte) (l : Link) : Link :=
  if kept.length + 1 = len.toNat + 2 then l.hunt.checkFrame len (kept ++ [b])
  else { l with receiver := .body len (kept ++ [b]), gapStart := some clock }

/-- The receiver takes a delivered byte by its state (R152); during a break no byte is delivered (R154). -/
def Link.takeByte (clock : Nat) (b : Byte) (l : Link) : Link :=
  if l.inBreak then l
  else
    match l.receiver with
    | .hunting => if b = 0x96 then { l with receiver := .length, gapStart := some clock } else l
    | .length => if badLengthByte b then l.lengthErrorByte else { l with receiver := .body b [], gapStart := some clock }
    | .body len kept => l.bodyByte clock len kept b

/-- The byte `b` is the last one of the frame in BODY. -/
def Link.completes (l : Link) : Bool :=
  match l.receiver with
  | .body len kept => kept.length + 1 == len.toNat + 2
  | .hunting | .length => false

/-- BYTE_DELIVERED (R152). -/
def execByteDelivered (b : Byte) (s : State) : Host.Outcome State Fault Refusal :=
  .next (if s.power = .on then s.modLink (Link.takeByte s.clock b) else s)

/-- FRAME_RECEIVED: the byte that completes a frame, which is checked (R153). -/
def execFrameReceived (b : Byte) (s : State) : Host.Outcome State Fault Refusal :=
  .next (if s.power = .on && s.link.completes then s.modLink (Link.takeByte s.clock b) else s)

/-- LENGTH_ERROR: a byte in LENGTH that is no length (R152). -/
def execLengthError (b : Byte) (s : State) : Host.Outcome State Fault Refusal :=
  .next
    (if s.power = .on && s.link.receiver = .length && badLengthByte b then s.modLink (Link.takeByte s.clock b) else s)

/-- FRAME_TIMEOUT: more than 2 ms pass inside a frame (R152). -/
def execFrameTimeout (s : State) : Host.Outcome State Fault Refusal :=
  .next
    (match s.link.gapStart with
    | none => s
    | some g =>
      ((s.passTo (g + Config.gapLimit)).modLink Link.hunt).modCounters fun c =>
        { c with frameTimeouts := satInc c.frameTimeouts })

/-! ## Break and link reset (R154, R155) -/

/-- BREAK: the break is recognised and the gap timer stops (R154). -/
def execBreakRecognised (s : State) : Host.Outcome State Fault Refusal :=
  .next (if s.power = .on then s.modLink fun l => { l with inBreak := true, gapStart := none } else s)

/-- A reply whose frame has not begun waits in the slot. -/
def Link.replyWaits (l : Link) : Bool := l.replySlot.any (fun x => !x.begun)

/-- The link reset (R155): receiver, buffer and duplicate record, an unbegun reply, the go-back, the silence timer, the counter. -/
def State.linkReset (s : State) : State :=
  let s := s.modLink fun l =>
    { l with
      receiver := .hunting
      gapStart := none
      inBreak := false
      rxBuffer := []
      dup := { l.dup with valid := false }
      replySlot := if l.replyWaits then none else l.replySlot }
  let s := s.setReports s.reports.goBack
  s.restartSilence.modCounters fun c => { c with linkResets := satInc c.linkResets }

/-- LINK_RESET: at the end of a break (R155); a Reset Device whose reply it discards resets the device at once (R165). -/
def execLinkReset (s : State) : Host.Outcome State Fault Refusal :=
  .next
    (if s.power = .on then
      if s.link.resetPending && s.link.replyWaits then s.linkReset.deviceReset .request else s.linkReset
    else s)

/-! ## The transmitter (R159) -/

/-- How long the line takes for a run of bytes, ten bits each at the rate in force, in 250 ns units rounded up (R151, log 17). -/
def lineTime (rate bytes : Nat) : Nat := (bytes * 10 * 4000000 + rate - 1) / rate

/-- The transmitter begins a frame. -/
def State.beginFrame (s : State) (kind : TxKind) (bytes : List Byte) : State :=
  s.modLink fun l => { l with tx := some ⟨kind, bytes, s.clock + lineTime s.baud.lineRate bytes.length⟩ }

/-- REPLY_FRAME_BEGIN: the arbiter of an idle transmitter begins a waiting reply (R159). -/
def execReplyFrameBegin (s : State) : Host.Outcome State Fault Refusal :=
  .next
    (match s.link.tx, s.link.replySlot with
    | none, some slot =>
      if slot.begun then s
      else (s.beginFrame .reply slot.reply.frame).modLink fun l => { l with replySlot := some { slot with begun := true } }
    | _, _ => s)

/-- REPLY_FRAME_END: the slot empties (R156); a pending Reset Device resets the device (R165), and a break in progress goes on. -/
def execReplyFrameEnd (s : State) : Host.Outcome State Fault Refusal :=
  .next
    (if s.link.tx.any (fun t => t.kind = .reply) then
      if s.link.resetPending then (s.deviceReset .request).modLink fun l => { l with inBreak := s.link.inBreak }
      else s.modLink fun l => { l with tx := none, replySlot := none }
    else s)

/-- The offered report is sent: its marks are set, and a stopped retransmit timer starts (R141, R142). -/
def ReportUnit.send (now : Nat) (r : ReportUnit) : ReportUnit :=
  { r with
    queue := markSent r.queue
    timer := match r.timer with
      | none => some (now + r.timeout * 1000)
      | some t => some t }

/-- The report that an idle transmitter begins next: none while a reply waits (R159). -/
def State.reportToSend (s : State) : Option Entry :=
  if s.link.tx.isNone && !s.link.replyWaits then s.reports.offered else none

/-- REPORT_FRAME_BEGIN (R141, R159). -/
def execReportFrameBegin (s : State) : Host.Outcome State Fault Refusal :=
  .next
    (match s.reportToSend with
    | none => s
    | some e => (s.setReports (s.reports.send s.micros)).beginFrame .report e.frame)

/-- REPORT_FRAME_END (R159). -/
def execReportFrameEnd (s : State) : Host.Outcome State Fault Refusal :=
  .next (if s.link.tx.any (fun t => t.kind = .report) then s.modLink fun l => { l with tx := none } else s)

end Sys2Proof.Machine
end

