-- ==== Sys2Proof/Machine/LinkRequests.lean ====
section
/-!
DEFINITION. Machine/LinkRequests.lean: the requests of the Command Link (spec 09 R162 to R165), and the frames that are no request
or a duplicate (R156, R157).
-/

namespace Sys2Proof.Machine

/-- Configure Link (R162). -/
def configureLink : Handler := checkLength 2 fun p s =>
  let timeout := field p 0 2
  if timeout = 0 then
    (s.modLink fun l => { l with silenceTimeout := 0, silenceTimer := none }, Status.ok.code :: leBytes 2 timeout)
  else if timeout < 10 || 10000 < timeout then refuse s .badParam
  else
    ((s.modLink fun l => { l with silenceTimeout := timeout }).restartSilence, Status.ok.code :: leBytes 2 timeout)

/-- The seven counters in the order of the reply (R183). -/
def LinkCounters.bytes (c : LinkCounters) : List Byte :=
  leBytes 2 c.crcErrors ++ leBytes 2 c.lengthErrors ++ leBytes 2 c.frameTimeouts ++ leBytes 2 c.overruns
    ++ leBytes 2 c.duplicates ++ leBytes 2 c.retransmits ++ leBytes 2 c.linkResets

/-- Read Link Status (R163): the counters are cleared after their values have been placed in the reply. -/
def readLinkStatus : Handler := checkLength 1 fun p s =>
  match twoValued (byteAt p 0) with
  | none => refuse s .badParam
  | some clear =>
    (if clear then s.modCounters (fun _ => .reset) else s,
      Status.ok.code :: s.link.counters.bytes ++ leBytes 2 s.link.silenceTimeout ++ [flagBit 0 s.link.silenceTimer.isSome]
        ++ leBytes 2 (s.timeLeft s.link.silenceTimer))

/-- Reset Device (R165): the decoder stops until the reply has been sent. -/
def resetDevice : Handler := checkLength 0 fun _ s =>
  (s.modLink fun l => { l with resetPending := true }, [Status.ok.code])

/-- No Operation (R164). -/
def noOperation : Handler := fun p s => if 32 < p.length then refuse s .badLength else (s, Status.ok.code :: p)

/-- A frame whose code names no request (R157 check 1). -/
def State.takeUnknown (s : State) : State :=
  match s.link.rxBuffer with
  | [] => s
  | f :: rest =>
    if s.decoderReady && !s.isDuplicate f && !requestCodes.contains f.code then
      (s.takeSilences.takeFrame rest).placeReply f [Status.unknownRequest.code]
    else s

/-- A frame with the sequence of the valid duplicate record: the cached reply is placed again, unchanged, and the duplicate counter
rises (R156). -/
def State.takeDuplicate (s : State) : State :=
  match s.link.rxBuffer with
  | [] => s
  | f :: rest =>
    if s.decoderReady && s.isDuplicate f then
      ((s.takeSilences.takeFrame rest).modLink fun l => { l with replySlot := some ⟨l.dup.reply, false⟩ }).modCounters fun c =>
        { c with duplicates := satInc c.duplicates }
    else s

/-- CONFIGURE_LINK (R162). -/
def execConfigureLink (s : State) : Host.Outcome State Fault Refusal := .next (s.takeRequest 0x50 configureLink)

/-- READ_LINK_STATUS (R163). -/
def execReadLinkStatus (s : State) : Host.Outcome State Fault Refusal := .next (s.takeRequest 0x51 readLinkStatus)

/-- RESET_DEVICE (R165). -/
def execResetDevice (s : State) : Host.Outcome State Fault Refusal := .next (s.takeRequest 0x52 resetDevice)

/-- NO_OPERATION (R164). -/
def execNoOperation (s : State) : Host.Outcome State Fault Refusal := .next (s.takeRequest 0x53 noOperation)

/-- UNKNOWN_REQUEST (R157). -/
def execUnknownRequest (s : State) : Host.Outcome State Fault Refusal := .next s.takeUnknown

/-- DUPLICATE (R156). -/
def execDuplicate (s : State) : Host.Outcome State Fault Refusal := .next s.takeDuplicate

end Sys2Proof.Machine
end

