-- ==== Sys2Proof/Machine/ReportRequests.lean ====
section
/-!
DEFINITION. Machine/ReportRequests.lean: Configure Reports, Acknowledge Reports and Replay Reports (spec 08).
-/

namespace Sys2Proof.Machine

/-- The presence byte and sequence of the oldest entry (R144, R183). -/
def oldestBytes (q : List Entry) (flags : Byte) : List Byte :=
  (presence 0 q.head? ||| flags) :: bytes16? (q.head?.map (·.seq))

/-- Configure Reports (R146): a window below the in-flight count performs a go-back. -/
def configureReports : Handler := checkLength 4 fun p s =>
  let streaming := flag (byteAt p 0) 0
  let window := (byteAt p 1).toNat
  let timeout := field p 2 2
  if window = 0 || 8 < window then refuse s .badParam
  else if timeout < 5 || 1275 < timeout || timeout % 5 ≠ 0 then refuse s .badParam
  else
    let r := if window < s.reports.inFlightCount then s.reports.goBack else s.reports
    let r := { r with streaming := streaming, window := window, timeout := timeout }
    (s.setReports r,
      [Status.ok.code, flagBit 0 streaming, BitVec.ofNat 8 window] ++ leBytes 2 timeout
        ++ [BitVec.ofNat 8 r.queue.length, BitVec.ofNat 8 r.inFlightCount])

/-- The queue split behind the entry with sequence `n`, if that entry's once-sent mark is set (R144): the entries through it, and
those left. -/
def splitAck (n : Word16) : List Entry → Option (List Entry × List Entry)
  | [] => none
  | e :: es =>
    if e.seq = n then (if e.onceSent then some ([e], es) else none)
    else (splitAck n es).map fun r => (e :: r.1, r.2)

/-- The Overflow figures among the entries removed (R140, R144). -/
def overflowFigures? (removed : List Entry) : Option (Nat × Word16) :=
  removed.findSome? fun e =>
    match e.body with
    | .overflow lost kinds => some (lost, kinds)
    | _ => none

/-- Acknowledge Reports (R144): the timer restarts with entries still in flight, and stops otherwise (R142). -/
def acknowledgeReports : Handler := checkLength 2 fun p s =>
  match splitAck (BitVec.ofNat 16 (field p 0 2)) s.reports.queue with
  | none =>
    (s, [Status.badAck.code, BitVec.ofNat 8 s.reports.queue.length] ++ oldestBytes s.reports.queue 0)
  | some (removed, left) =>
    let r := { s.reports with queue := left }
    let r := { r with timer := if r.inFlightCount = 0 then none else some (s.micros + r.timeout * 1000) }
    let figures := overflowFigures? removed
    (s.setReports r,
      [Status.ok.code, BitVec.ofNat 8 removed.length, BitVec.ofNat 8 left.length] ++ oldestBytes left (presence 1 figures)
        ++ leBytes 2 ((figures.map (·.1)).getD 0) ++ bytes16? (figures.map (·.2)))

/-- Replay Reports (R145): a go-back. -/
def replayReports : Handler := checkLength 0 fun _ s =>
  (s.setReports s.reports.goBack, [Status.ok.code, BitVec.ofNat 8 s.reports.queue.length])

/-- CONFIGURE_REPORTS (R146). -/
def execConfigureReports (s : State) : Host.Outcome State Fault Refusal := .next (s.takeRequest 0x40 configureReports)

/-- ACKNOWLEDGE_REPORTS (R144). -/
def execAcknowledgeReports (s : State) : Host.Outcome State Fault Refusal := .next (s.takeRequest 0x41 acknowledgeReports)

/-- REPLAY_REPORTS (R145). -/
def execReplayReports (s : State) : Host.Outcome State Fault Refusal := .next (s.takeRequest 0x42 replayReports)

end Sys2Proof.Machine
end

