-- ==== Sys2Proof/Machine/ResetEvents.lean ====
section
/-!
DEFINITION. Machine/ResetEvents.lean: supply and RESETN (spec 09 R165, R166).
-/

namespace Sys2Proof.Machine

/-- POWER_ON: a device reset with cause POWER_ON (R166); with RESETN low the device stays in reset (log 20). -/
def execPowerOn (s : State) : Host.Outcome State Fault Refusal :=
  .next (if s.resetnLow then s.blank .held else s.deviceReset .powerOn)

/-- RESETN_ASSERT: the device enters reset (R166); without supply only the pin changes. -/
def execResetnAssert (s : State) : Host.Outcome State Fault Refusal :=
  .next (if s.power = .off then { s with resetnLow := true } else { s.blank .held with resetnLow := true })

/-- RESETN_RELEASE: the device leaves reset with cause PIN (R166). -/
def execResetnRelease (s : State) : Host.Outcome State Fault Refusal :=
  .next
    (if s.power = .held then { s with resetnLow := false }.deviceReset .pin else { s with resetnLow := false })

/-- POWER_LOSS: the device is dead until power-on (R165). -/
def execPowerLoss (s : State) : Host.Outcome State Fault Refusal := .next (s.blank .off)

end Sys2Proof.Machine
end

