-- ==== Sys2Proof/Machine/StatusRequests.lean ====
section
/-!
DEFINITION. Machine/StatusRequests.lean: Configure Axis, Read Axis Status and Read Device Info (spec 10).
-/

namespace Sys2Proof.Machine

/-- The inputs whose filter setting changes are timed again under the new one (R169). -/
def AxisInputs.retime (clock : Nat) (old new : AxisSettings) (x : AxisInputs) : AxisInputs :=
  let sw (l : InputLine) :=
    if new.switchFilter = old.switchFilter then l else l.retime clock (switchFilterTime new.switchFilter)
  let en (l : InputLine) :=
    if new.encoderFilter = old.encoderFilter then l else l.retime clock (encoderFilterTime new.encoderFilter)
  { limp := sw x.limp, limn := sw x.limn, home := sw x.home, dflt := sw x.dflt
    enca := en x.enca, encb := en x.encb, enci := en x.enci }

/-- The quadrature state when the encoder enable is set: kept while it stays enabled, the present pair at the enabling, not kept
while disabled (R83). -/
def Axis.quadAfter (x : Axis) (enable : Bool) : Option (Bool × Bool) :=
  if enable then
    if x.settings.encoderEnable then x.encoder.quad else some (x.inputs.enca.filtered, x.inputs.encb.filtered)
  else none

/-- DIR when the inversion is set: a change shows the last step direction at once, and a DIR change that waited for the end of a pulse is
superseded (R169; DEDUCED, log 13; safe). It is shown at once also while a last pulse is still high, where R171 would have DIR wait
(DESIGN CHOICE, log 33; unsafe). -/
def Axis.outputAfter (x : Axis) (now : Nat) (inverted : Bool) : StepOutput :=
  if inverted = x.settings.dirInverted then x.output else x.output.turn now x.lastDir

/-- All fourteen settings take their new values, with the effects of R169. -/
def Axis.configure (clock : Nat) (set : AxisSettings) (x : Axis) : Axis :=
  { x with
    settings := set
    output := x.outputAfter clock set.dirInverted
    inputs := x.inputs.retime clock x.settings set
    encoder := { x.encoder with quad := x.quadAfter set.encoderEnable } }

/-- Configure Axis (R168). -/
def configureAxis : Handler := checkLength 17 <| onAxis fun a p s =>
  match readAxisSettings p with
  | none => refuse s .badParam
  | some set =>
    if (s.axis a).st ≠ .off then refuse s .state
    else (s.modAxis a (Axis.configure s.clock set), Status.ok.code :: set.bytes)

/-- The filtered levels byte (R183). -/
def State.levelsByte (s : State) (a : AxisId) : Byte :=
  let x := s.axis a
  flagBit 0 (x.inputActive .limp) ||| flagBit 1 (x.inputActive .limn) ||| flagBit 2 (x.inputActive .home)
    ||| flagBit 3 (x.inputActive .dflt) ||| flagBit 4 x.inputs.enca.filtered ||| flagBit 5 x.inputs.encb.filtered
    ||| flagBit 6 x.inputs.enci.filtered ||| flagBit 7 s.tripActive

/-- The presence byte of Read Axis Status (R183). -/
def Axis.presenceByte (x : Axis) : Byte :=
  presence 0 x.ctx ||| flagBit 1 (x.ctx.any fun c => c.seg.body.kindCode == 2) ||| presence 2 x.staged
    ||| presence 3 x.headGate ||| flagBit 4 x.owedFlush ||| presence 5 x.faultRecord
    ||| flagBit 6 (x.faultRecord.any fun r => r.activeTag.isSome)

/-- The active tag, kind, phase, steps done and dwell time left (R183); zeros when absent (R180). -/
def activeBytes : Option Ctx → List Byte
  | none => leBytes 10 0
  | some c => bytes16 c.seg.tag ++ [c.seg.body.kindCode, c.phase.code] ++ leBytes 3 c.stepsDone ++ leBytes 3 c.dwellLeft

/-- The fault record (R183); zeros when absent (R180). -/
def faultBytes : Option FaultRecord → List Byte
  | none => leBytes 21 0
  | some r =>
    [BitVec.ofNat 8 r.first.code, r.additional] ++ bytes32 r.time ++ bytes32 r.position ++ bytes32 r.encoder ++ bytes32 r.fe
      ++ bytes16? r.activeTag ++ [r.stateAt.code]

/-- The 85 bytes of the Read Axis Status reply after its status (R176, R183). -/
def State.axisStatus (s : State) (a : AxisId) : List Byte :=
  let x := s.axis a
  bytes32 s.deviceTime ++ [x.st.code] ++ leBytes 3 x.rate ++ [x.lastDir.code] ++ bytes32 x.position
    ++ bytes32 x.encoder.position ++ bytes32 x.fe
    ++ [BitVec.ofNat 8 x.depth, BitVec.ofNat 8 x.quota, BitVec.ofNat 8 x.threshold, BitVec.ofNat 8 s.poolFree, x.presenceByte]
    ++ activeBytes x.ctx ++ bytes16? (x.staged.map (·.tag)) ++ [(x.headGate.map groupByte).getD 0] ++ faultBytes x.faultRecord
    ++ bytes32 x.encoder.indexPosition ++ bytes16 x.encoder.indexCount ++ leBytes 2 x.encoder.errorCount ++ [s.levelsByte a]
    ++ x.settings.bytes

/-- Read Axis Status (R176). -/
def readAxisStatus : Handler := checkLength 1 <| onAxis fun a _ s => (s, Status.ok.code :: s.axisStatus a)

/-- Read Device Info (R177, R183). -/
def readDeviceInfo : Handler := checkLength 0 fun _ s =>
  (s, Status.ok.code :: leBytes 2 Config.partCode
    ++ [BitVec.ofNat 8 Config.revision, 4, BitVec.ofNat 8 Config.poolSlots, 8, BitVec.ofNat 8 Config.reportEntries,
        flagBit 0 s.baud.baud0 ||| flagBit 1 s.baud.baud1]
    ++ leBytes 4 s.baud.lineRate)

/-- CONFIGURE_AXIS (R168). -/
def execConfigureAxis (s : State) : Host.Outcome State Fault Refusal := .next (s.takeRequest 0x60 configureAxis)

/-- READ_AXIS_STATUS (R176). -/
def execReadAxisStatus (s : State) : Host.Outcome State Fault Refusal := .next (s.takeRequest 0x61 readAxisStatus)

/-- READ_DEVICE_INFO (R177). -/
def execReadDeviceInfo (s : State) : Host.Outcome State Fault Refusal := .next (s.takeRequest 0x62 readDeviceInfo)

end Sys2Proof.Machine
end

