-- ==== Sys2Proof/Machine/Store.lean ====
section
/-!
DEFINITION. Machine/Store.lean: the requests of the Segment Store (spec 01): Load Segments, Trim Queue, Flush Queue, Configure Queue.
-/

namespace Sys2Proof.Machine

/-- After an admission a RUN, starved axis begins the first new record (R13); a gated one arrives. -/
def State.afterLoad (s : State) (a : AxisId) (starved : Bool) : State :=
  if starved then s.settle [.beginHead a none] else s

/-- The axis is RUN, starved (R40). -/
def Axis.starved (x : Axis) : Bool := x.st = .run && x.ctx.isNone && x.queue.isEmpty

/-- Load Segments after its index, length and count checks: validation, quota, pool, admission (R11 rows 4 to 7, R12, R13). The
reply carries the depth and the free count as they stand when it is formed (log 11). -/
def loadRecords (a : AxisId) (count : Nat) : Handler := fun p s =>
  match readRecords (fun g => (s.group g).members) a 0 (recordsOf p count) with
  | .error (index, reason) => (s, [Status.badSegment.code, BitVec.ofNat 8 index, reason.code])
  | .ok segs =>
    if (s.axis a).quota < (s.axis a).depth + count then
      (s, [Status.queueFull.code, BitVec.ofNat 8 ((s.axis a).quota - (s.axis a).depth)])
    else if s.poolFree < count then (s, [Status.poolEmpty.code, BitVec.ofNat 8 s.poolFree])
    else
      let t := (s.enqueue a segs).afterLoad a (s.axis a).starved
      (t, [Status.ok.code, BitVec.ofNat 8 (t.axis a).depth, BitVec.ofNat 8 t.poolFree])

/-- Load Segments (R11). -/
def loadSegments : Handler := fun p s =>
  if p.length < 2 then refuse s .badLength
  else
    onAxis (fun a p s =>
      let count := (byteAt p 1).toNat
      if p.length ≠ 2 + 14 * count then refuse s .badLength
      else if count = 0 || 8 < count then refuse s .badParam
      else loadRecords a count p s) p s

/-- Trim Queue (R15): from the tail, up to the protected set of R10. -/
def trimQueue : Handler := checkLength 2 <| onAxis fun a p s =>
  let count := (byteAt p 1).toNat
  if count = 0 || 128 < count then refuse s .badParam
  else
    let x := s.axis a
    let keep := max (x.depth - count) (min x.protectedCount x.depth)
    let t := s.dropTail a keep
    (t, [Status.ok.code, BitVec.ofNat 8 (x.depth - keep), BitVec.ofNat 8 keep])

/-- Everything but the active segment leaves; an axis in GATE whose gated head is removed withdraws to RUN, starved (R17, R18). -/
def State.flush (s : State) (a : AxisId) : State :=
  let x := s.axis a
  if x.ctx.isSome then s.dropTail a 1
  else if x.st = .gate then ((s.withdraw a).dropTail a 0).starve a
  else s.dropTail a 0

/-- Flush Queue (R17). -/
def flushQueue : Handler := checkLength 1 <| onAxis fun a _ s =>
  let t := s.flush a
  (t, [Status.ok.code, BitVec.ofNat 8 ((s.axis a).depth - (t.axis a).depth), BitVec.ofNat 8 (t.axis a).depth])

/-- Configure Queue (R20). -/
def configureQueue : Handler := checkLength 3 <| onAxis fun a p s =>
  let quota := (byteAt p 1).toNat
  let threshold := (byteAt p 2).toNat
  if quota = 0 || 128 < quota then refuse s .badParam
  else if 127 < threshold then refuse s .badParam
  else if quota < (s.axis a).depth then refuse s .badParam
  else
    (s.modAxis a fun x => { x with quota := quota, threshold := threshold },
      [Status.ok.code, BitVec.ofNat 8 quota, BitVec.ofNat 8 threshold, BitVec.ofNat 8 (s.axis a).depth])

/-- LOAD_SEGMENTS (R11). -/
def execLoadSegments (s : State) : Host.Outcome State Fault Refusal := .next (s.takeRequest 0x10 loadSegments)

/-- TRIM_QUEUE (R15). -/
def execTrimQueue (s : State) : Host.Outcome State Fault Refusal := .next (s.takeRequest 0x11 trimQueue)

/-- FLUSH_QUEUE (R17). -/
def execFlushQueue (s : State) : Host.Outcome State Fault Refusal := .next (s.takeRequest 0x12 flushQueue)

/-- CONFIGURE_QUEUE (R20). -/
def execConfigureQueue (s : State) : Host.Outcome State Fault Refusal := .next (s.takeRequest 0x13 configureQueue)

end Sys2Proof.Machine
end

