-- ==== Sys2Proof/Machine/TimerEvents.lean ====
section
/-!
DEFINITION. Machine/TimerEvents.lean: the retransmit, silence and barrier timers (spec 08 R142, 09 R161, 06 R108), steps that fall
due, delayed steps, pulse ends and dwells (02, 10).
A timer event takes place at its time, or now when that time has passed (log 4); without its timer running it does not (log 1).
-/

namespace Sys2Proof.Machine

/-- RETRANSMIT_TIMER_EXPIRY: a go-back, and the retransmit counter rises (R142, R143). -/
def execRetransmitTimerExpiry (s : State) : Host.Outcome State Fault Refusal :=
  .next
    (match s.reports.timer with
    | none => s
    | some t =>
      let s := s.passToMicros t
      (s.setReports s.reports.goBack).modCounters fun c => { c with retransmits := satInc c.retransmits })

/-- The states supervised for silence (R161). -/
def AxisState.supervised : AxisState → Bool
  | .run | .gate | .holding | .held | .stopping | .faultBrake => true
  | .off | .ready | .fault => false

/-- SILENCE_TIMER_EXPIRY: SILENCE goes to every supervised axis, each of which takes it in its own event, before the decoder takes
another frame; the timer stays stopped (R161, log 14). A second expiry, after a link reset has restarted the timer, that comes while a
SILENCE is still on its way to an axis merges into it, and one cause is taken (R117; DESIGN CHOICE, log 14; unsafe). -/
def execSilenceTimerExpiry (s : State) : Host.Outcome State Fault Refusal :=
  .next
    (match s.link.silenceTimer with
    | none => s
    | some t =>
      let s := s.passToMicros t
      (s.modAxes fun _ x => { x with silencePending := x.silencePending || x.st.supervised }).modLink fun l =>
        { l with silenceTimer := none })

/-- SILENCE_CAUSE: one axis takes the SILENCE on its way to it (R161). -/
def execSilenceCause (a : AxisId) (s : State) : Host.Outcome State Fault Refusal := .next (s.takeSilence a)

/-- A break: the arrived axes go to HELD, the set empties, the round rises, Group Broken is created (R108). -/
def State.breakGroup (s : State) (g : GroupId) : State :=
  let x := s.group g
  let s := s.modAxes fun a y => if inSet x.arrived a then { y with st := .held, rate := 0 } else y
  let s := s.setGroup g { x with arrived := 0, timer := none, round := x.round + 1 }
  s.report (.groupBroken g (x.round + 1) x.arrived)

/-- BARRIER_TIMER_EXPIRY (R108). -/
def execBarrierTimerExpiry (g : GroupId) (s : State) : Host.Outcome State Fault Refusal :=
  .next
    (match (s.group g).timer with
    | none => s
    | some t => (s.passToMicros t).breakGroup g)

/-- The step that is to fall due on an axis and its clock: the axis is stepping, the segment has a next step, and none waits
(R34, R37). -/
def Axis.stepDueAt (x : Axis) : Option Nat :=
  match x.ctx with
  | none => none
  | some c => if x.stepping && c.hasNextStep && c.delayed.isNone then some (c.nextDue x.settings) else none

/-- STEP_DUE (R34). -/
def execStepDue (a : AxisId) (s : State) : Host.Outcome State Fault Refusal :=
  .next
    (match (s.axis a).stepDueAt with
    | none => s
    | some t => (s.passTo t).settle [.stepNow a])

/-- DELAYED_STEP_ISSUE: the delay has passed, and the limit check is made (R35, R118, R171). -/
def execDelayedStepIssue (a : AxisId) (s : State) : Host.Outcome State Fault Refusal :=
  .next
    (match (s.axis a).ctx.bind (·.delayed) with
    | none => s
    | some issueAt =>
      if (s.axis a).stepping then
        let s := s.passTo issueAt
        settleAll ((s.modAxis a (Axis.endPulseIfOver s.clock)).attemptStep a)
      else s)

/-- STEP_PULSE_END (R170, R171). -/
def execStepPulseEnd (a : AxisId) (s : State) : Host.Outcome State Fault Refusal :=
  .next
    (if (s.axis a).output.high then (s.passTo (s.axis a).output.pulseEnd).modAxis a Axis.endPulse else s)

/-- The dwell time left of a running DWELL (R43). -/
def Axis.dwellRunning (x : Axis) : Option Nat :=
  match x.ctx with
  | none => none
  | some c => if x.st = .run && c.phase = .timing then some c.dwellLeft else none

/-- DWELL_EXPIRY: the dwell time left reaches 0 and the DWELL completes (R43). -/
def execDwellExpiry (a : AxisId) (s : State) : Host.Outcome State Fault Refusal :=
  .next
    (match (s.axis a).dwellRunning with
    | none => s
    | some left => settleAll ((s.passToMicros (s.micros + left)).completeAtRest a))

end Sys2Proof.Machine
end

