-- ==== Sys2Proof/Machine/Dispatch.lean ====
section
/-! DEFINITION. Machine/Dispatch.lean: the meaning of every command. -/

namespace Sys2Proof.Machine

def exec (i : Instr) (s : State) : Host.Outcome State Fault Refusal :=
  match i with
  | .loadSegments => Sys2Proof.Machine.execLoadSegments s
  | .trimQueue => Sys2Proof.Machine.execTrimQueue s
  | .flushQueue => Sys2Proof.Machine.execFlushQueue s
  | .configureQueue => Sys2Proof.Machine.execConfigureQueue s
  | .enableAxis => Sys2Proof.Machine.execEnableAxis s
  | .disableAxis => Sys2Proof.Machine.execDisableAxis s
  | .startAxis => Sys2Proof.Machine.execStartAxis s
  | .holdAxis => Sys2Proof.Machine.execHoldAxis s
  | .resumeAxis => Sys2Proof.Machine.execResumeAxis s
  | .stopAxis => Sys2Proof.Machine.execStopAxis s
  | .setPosition => Sys2Proof.Machine.execSetPosition s
  | .defineGroup => Sys2Proof.Machine.execDefineGroup s
  | .readGroupStatus => Sys2Proof.Machine.execReadGroupStatus s
  | .configureProtection => Sys2Proof.Machine.execConfigureProtection s
  | .clearFault => Sys2Proof.Machine.execClearFault s
  | .configureReports => Sys2Proof.Machine.execConfigureReports s
  | .acknowledgeReports => Sys2Proof.Machine.execAcknowledgeReports s
  | .replayReports => Sys2Proof.Machine.execReplayReports s
  | .configureLink => Sys2Proof.Machine.execConfigureLink s
  | .readLinkStatus => Sys2Proof.Machine.execReadLinkStatus s
  | .resetDevice => Sys2Proof.Machine.execResetDevice s
  | .noOperation => Sys2Proof.Machine.execNoOperation s
  | .configureAxis => Sys2Proof.Machine.execConfigureAxis s
  | .readAxisStatus => Sys2Proof.Machine.execReadAxisStatus s
  | .readDeviceInfo => Sys2Proof.Machine.execReadDeviceInfo s
  | .unknownRequest => Sys2Proof.Machine.execUnknownRequest s
  | .duplicate => Sys2Proof.Machine.execDuplicate s
  | .frameReceived b => Sys2Proof.Machine.execFrameReceived b s
  | .lengthError b => Sys2Proof.Machine.execLengthError b s
  | .frameTimeout => Sys2Proof.Machine.execFrameTimeout s
  | .breakRecognised => Sys2Proof.Machine.execBreakRecognised s
  | .linkReset => Sys2Proof.Machine.execLinkReset s
  | .replyFrameBegin => Sys2Proof.Machine.execReplyFrameBegin s
  | .replyFrameEnd => Sys2Proof.Machine.execReplyFrameEnd s
  | .reportFrameBegin => Sys2Proof.Machine.execReportFrameBegin s
  | .reportFrameEnd => Sys2Proof.Machine.execReportFrameEnd s
  | .retransmitTimerExpiry => Sys2Proof.Machine.execRetransmitTimerExpiry s
  | .silenceTimerExpiry => Sys2Proof.Machine.execSilenceTimerExpiry s
  | .silenceCause a => Sys2Proof.Machine.execSilenceCause a s
  | .barrierTimerExpiry g => Sys2Proof.Machine.execBarrierTimerExpiry g s
  | .stepDue a => Sys2Proof.Machine.execStepDue a s
  | .delayedStepIssue a => Sys2Proof.Machine.execDelayedStepIssue a s
  | .stepPulseEnd a => Sys2Proof.Machine.execStepPulseEnd a s
  | .dwellExpiry a => Sys2Proof.Machine.execDwellExpiry a s
  | .rawInputChange p level => Sys2Proof.Machine.execRawInputChange p level s
  | .limitInputChange a which => Sys2Proof.Machine.execLimitInputChange a which s
  | .dfltChange a => Sys2Proof.Machine.execDfltChange a s
  | .tripChange => Sys2Proof.Machine.execTripChange s
  | .tripCause a => Sys2Proof.Machine.execTripCause a s
  | .seekTriggerEdge a => Sys2Proof.Machine.execSeekTriggerEdge a s
  | .indexEdge a => Sys2Proof.Machine.execIndexEdge a s
  | .quadratureTransition a => Sys2Proof.Machine.execQuadratureTransition a s
  | .powerOn => Sys2Proof.Machine.execPowerOn s
  | .resetnAssert => Sys2Proof.Machine.execResetnAssert s
  | .resetnRelease => Sys2Proof.Machine.execResetnRelease s
  | .byteDelivered b => Sys2Proof.Machine.execByteDelivered b s
  | .homeInputChange a => Sys2Proof.Machine.execHomeInputChange a s
  | .powerLoss => Sys2Proof.Machine.execPowerLoss s

end Sys2Proof.Machine
end

