-- ==== Sys2Proof/Machine/Timing.lean ====
section
/-!
DEFINITION. Machine/Timing.lean: what the block does of itself while no command waits (spec 00 section 2.3; log 2): the events that
are due now, and the passing of time.
-/

namespace Sys2Proof.Machine

/-- The time of a timed event has come. -/
def reached (now : Nat) (t : Option Nat) : Bool := t.any (· ≤ now)

/-- The request that a code names, with its row of the command table (R181). -/
def requestTable : List (Byte × Instr) :=
  [(0x10, .loadSegments), (0x11, .trimQueue), (0x12, .flushQueue), (0x13, .configureQueue), (0x20, .enableAxis),
   (0x21, .disableAxis), (0x22, .startAxis), (0x23, .holdAxis), (0x24, .resumeAxis), (0x25, .stopAxis), (0x26, .setPosition),
   (0x30, .defineGroup), (0x31, .readGroupStatus)]
  ++ [(0x38, .configureProtection), (0x39, .clearFault), (0x40, .configureReports), (0x41, .acknowledgeReports),
   (0x42, .replayReports), (0x50, .configureLink), (0x51, .readLinkStatus), (0x52, .resetDevice), (0x53, .noOperation),
   (0x60, .configureAxis), (0x61, .readAxisStatus), (0x62, .readDeviceInfo)]

/-- The command by which the decoder takes a frame (R156, R157). -/
def State.requestOf (s : State) (f : Frame) : Instr :=
  if s.isDuplicate f then .duplicate
  else ((requestTable.find? (fun r => r.1 = f.code)).map (·.2)).getD .unknownRequest

/-- An event, if it is due. -/
def dueIf (b : Bool) (c : Instr) : List Instr := if b then [c] else []

/-- The events of one axis that are due (R34, R35, R43, R84, R87, R119, R161, R170, R173). -/
def State.axisDue (s : State) (a : AxisId) : List Instr :=
  let x := s.axis a
  let now (i : AxisInput) := reached s.clock (s.inputDue a i)
  dueIf (reached s.clock x.stepDueAt) (.stepDue a)
  ++ dueIf (x.stepping && reached s.clock (x.ctx.bind (·.delayed))) (.delayedStepIssue a)
  ++ dueIf (x.output.high && x.output.pulseEnd ≤ s.clock) (.stepPulseEnd a)
  ++ dueIf (x.dwellRunning = some 0) (.dwellExpiry a)
  ++ dueIf (now .limp) (.limitInputChange a .positive)
  ++ dueIf (now .limn) (.limitInputChange a .negative)
  ++ dueIf (now .dflt) (.dfltChange a)
  ++ dueIf (now .home && !x.watches .home (x.nextActive .home)) (.homeInputChange a)
  ++ dueIf (x.triggerPending || (now .home && x.watches .home (x.nextActive .home))
      || (now .enci && x.watches .index (x.nextActive .enci) && !x.encoder.edgePending)) (.seekTriggerEdge a)
  ++ dueIf (x.encoder.edgePending || now .enci) (.indexEdge a)
  ++ dueIf (reached s.clock (s.pairDue a)) (.quadratureTransition a)
  ++ dueIf x.tripPending (.tripCause a)
  ++ dueIf x.silencePending (.silenceCause a)

/-- How long an idle receiver waits inside a frame: the gap of R152, and the time of the byte that may be arriving (log 18). -/
def State.gapDue (s : State) : Option Nat := s.link.gapStart.map (· + Config.gapLimit + lineTime s.baud.lineRate 1)

/-- The events of the Command Link and the Report Unit that are due (R142, R152, R156, R159, R161). -/
def State.linkDue (s : State) : List Instr :=
  (match s.link.rxBuffer with
    | [] => []
    | f :: _ => dueIf s.decoderReady (s.requestOf f))
  ++ (match s.link.tx with
    | none =>
      dueIf s.link.replyWaits .replyFrameBegin ++ dueIf s.reportToSend.isSome .reportFrameBegin
    | some t =>
      dueIf (t.doneAt ≤ s.clock)
        (match t.kind with
        | .reply => .replyFrameEnd
        | .report => .reportFrameEnd))
  ++ dueIf (reached s.micros s.reports.timer) .retransmitTimerExpiry
  ++ dueIf (reached s.micros s.link.silenceTimer) .silenceTimerExpiry
  ++ dueIf (reached s.clock s.gapDue) .frameTimeout

/-- The barrier timers and the TRIP change that are due (R108, R174). -/
def State.sharedDue (s : State) : List Instr :=
  ([0, 1, 2, 3, 4, 5, 6, 7] : List GroupId).flatMap (fun g => dueIf (reached s.micros (s.group g).timer) (.barrierTimerExpiry g))
  ++ dueIf (reached s.clock s.trip.due) .tripChange

/-- Every event that is due now. -/
def State.dueEvents (s : State) : List Instr :=
  s.linkDue ++ s.sharedDue ++ ([0, 1, 2, 3] : List AxisId).flatMap s.axisDue

/-- One clock unit of 250 ns passes (log 3). -/
def State.tick (s : State) : State := s.passTo (s.clock + 1)

/-- The one of several due events that is taken first: a free choice (log 2). -/
def State.chosen (s : State) (c : Instr) (cs : List Instr) : Instr :=
  (c :: cs).getD (Config.freeChoice s.freeCount % (cs.length + 1)) c

end Sys2Proof.Machine
end

