-- ==== Sys2Proof/Machine/Step.lean ====
section
/-!
DEFINITION. Machine/Step.lean: one step of the block: the command at the front of the queue, or what an idle block does of itself
(log 2).
-/

namespace Sys2Proof.Machine

/-- An idle block takes the event that is due, one of several by free choice, or lets 250 ns pass; held in reset or without supply
it does nothing (logs 2, 3). -/
def State.idle (s : State) : Host.Outcome State Fault Refusal :=
  if s.power = .on then
    match s.dueEvents with
    | [] => .next s.tick
    | [c] => exec c s
    | c :: d :: cs => exec (s.chosen c (d :: cs)) { s with freeCount := s.freeCount + 1 }
  else .next s

/-- One step. -/
def step (s : State) : Host.Outcome State Fault Refusal :=
  match s.pending with
  | c :: rest => exec c { s with pending := rest }
  | [] => s.idle

/-- `s` with the command that a word spells put at the front of its queue; no word spells one (log 8). -/
def State.withFetchWord (s : State) (nbits w : Nat) : State :=
  match decodeTableWord nbits w with
  | some c => { s with pending := c :: s.pending }
  | none => s

end Sys2Proof.Machine
end

