-- ==== Sys2Proof/Safety.lean ====
section
/-!
DEFINITION. Safety.lean: the words in which the statements are said: a frame that the decoder can take and the answer to it, the
values after a device reset, and the invariants that the spec states.
-/

namespace Sys2Proof.Machine

/-! ## Requests and their answers -/

/-- The decoder can take the frame `f` now, it is a new request (R156), and no SILENCE is on its way to an axis (R161). -/
def State.offers (s : State) (f : Frame) (rest : List Frame) : Prop :=
  s.power = .on ∧ s.link.rxBuffer = f :: rest ∧ s.link.replySlot = none ∧ s.link.resetPending = false
    ∧ (s.link.dup.valid = true → s.link.dup.seq ≠ f.seq) ∧ ∀ a, (s.axis a).silencePending = false

/-- The frame `f` taken and answered with this payload, and nothing else (R156, R160, R161): the buffer holds the rest, the reply
waits in the slot and in the duplicate record, and the silence timer restarts if the timeout is not 0. -/
def State.answered (s : State) (f : Frame) (rest : List Frame) (payload : List Byte) : State :=
  { s with
    link := { s.link with
      rxBuffer := rest
      replySlot := some ⟨⟨f.seq, f.code, payload⟩, false⟩
      dup := ⟨true, f.seq, ⟨f.seq, f.code, payload⟩⟩
      silenceTimer :=
        if s.link.silenceTimeout = 0 then s.link.silenceTimer else some (s.micros + s.link.silenceTimeout * 1000) } }

/-- The decoder can take the frame `f` now: it is the oldest one, the reply slot is empty, and no Reset Device waits for its reply
(R156, R165). -/
def State.frameWaits (s : State) (f : Frame) : Prop :=
  s.power = .on ∧ s.link.rxBuffer.head? = some f ∧ s.link.replySlot = none ∧ s.link.resetPending = false

/-- The decoder can take a frame with this code now, as a new request (R156, R157). -/
def State.requestWaits (s : State) (code : Byte) : Prop :=
  ∃ f, s.frameWaits f ∧ (s.link.dup.valid = true → s.link.dup.seq ≠ f.seq) ∧ f.code = code

/-! ## Inputs -/

/-- A change of `source` to active, or to inactive, is the trigger edge of the axis's open watch (R70, R71). -/
def Axis.triggeredBy (source : TrigSource) (toActive : Bool) (x : Axis) : Prop :=
  (x.st = .run ∨ x.st = .holding) ∧ ∃ c dir rate max edge, x.ctx = some c ∧ c.watch = some .opened
    ∧ c.seg.body = .seek dir rate max source edge ∧ (edge = .toActive ↔ toActive = true)

/-- The filter time of an input has run out, and its delivery is due (R173). -/
def State.deliveryDue (s : State) (a : AxisId) (i : AxisInput) : Prop := ∃ t, ((s.axis a).inputs.line i).due = some t ∧ t ≤ s.clock

/-! ## Steps -/

/-- A step in this direction may be issued now: no DIR change and no pulse spacing delays it (R170, R171). `now` is the clock. -/
def Axis.freeToStep (now : Nat) (dir : Dir) (x : Axis) : Prop :=
  x.lastDir = dir ∧ x.output.dirShown = dir ∧ x.output.turnTo = none ∧ x.output.high = false ∧ x.output.nextPulse ≤ now

/-- The axis after a step in direction `dir` at rate `rate` is issued at the clock `now`, its context becoming `c` (R34, R170): the
pulse is as long as its width, in 250 ns units. -/
def Axis.stepped (now rate : Nat) (dir : Dir) (c : Ctx) (x : Axis) : Axis :=
  { x with
    position := match dir with
      | .positive => x.position + 1
      | .negative => x.position - 1
    rate := rate
    lastDir := dir
    ctx := some c
    output := { x.output with
      high := true, pulseEnd := now + 4 * x.settings.pulseWidth, nextPulse := now + 8 * x.settings.pulseWidth } }

/-- The command `i` is the one by which the next step of axis `a`, with active context `c`, comes at the clock `now`: it falls due and
nothing delays it, or its delay has passed (R35, R37, R170). -/
def Axis.stepComes (a : AxisId) (c : Ctx) (now : Nat) (i : Instr) (x : Axis) : Prop :=
  i = .stepDue a ∧ c.delayed = none ∧ c.nextDue x.settings ≤ now ∧ x.freeToStep now c.seg.body.dir
    ∨ i = .delayedStepIssue a ∧ ∃ d, c.delayed = some d ∧ d ≤ now

/-- The limit input of this direction is active (R118). -/
def Axis.atLimit (dir : Dir) (x : Axis) : Bool :=
  match dir with
  | .positive => x.inputActive .limp
  | .negative => x.inputActive .limn

/-- The limit check lets a step in this direction pass, and `x` is `w` after it: no active limit, or in FAULT_BRAKE an active one under
policy BRAKE, whose cause joins the record (R118, R127). -/
def Axis.limitPasses (dir : Dir) (x w : Axis) : Prop :=
  (x.atLimit dir = false ∧ w = x)
  ∨ (x.atLimit dir = true ∧ x.st = .faultBrake ∧ x.protection.limitPolicy = .brake ∧ ∃ r, x.faultRecord = some r
    ∧ w = { x with
        faultRecord := some { r with additional := r.additional ||| (if dir = .positive then 1#8 else 2#8) } })

/-! ## Departures and reports -/

/-- How many segments of a queue are gated on `g`. -/
def gatedOn (g : GroupId) (q : List Segment) : Nat := (q.filter (fun seg => seg.gate = some g)).length

/-- Reports created one after another within one event (R138). -/
def ReportUnit.createAll (time : Word32) (bodies : List ReportBody) (r : ReportUnit) : ReportUnit :=
  bodies.foldl (fun r body => r.create time body) r

/-- The Queue Low that the departure of one segment creates, or nothing (R22). -/
def Axis.lowAfterOne (a : AxisId) (x : Axis) : List ReportBody :=
  if x.threshold ≠ 0 ∧ x.depth = x.threshold then [.queueLow a (x.threshold - 1)] else []

/-- The group entries less the references of segments that have left (R23). -/
def State.groupLess (s : State) (gone : List Segment) (g : GroupId) : Group :=
  { s.group g with refCount := (s.group g).refCount - gatedOn g gone }

/-- `t` is `s` with axis `a` become `y`, these reports created, and these segments gone from its queue: their slots freed, their references
dropped (R21, R23, R138). -/
def State.changesTo (s : State) (a : AxisId) (y : Axis) (reports : List ReportBody) (gone : List Segment) (t : State) : Prop :=
  t.axis a = y ∧ (∀ b, b ≠ a → t.axis b = s.axis b)
    ∧ t.poolFree = s.poolFree + gone.length ∧ (∀ g, t.group g = s.groupLess gone g)
    ∧ t.reports = s.reports.createAll s.deviceTime reports
    ∧ t = { s with axes := t.axes, groups := t.groups, poolFree := t.poolFree, reports := t.reports }

/-- `t` is `s` with these segments admitted behind the queue of axis `a` (R12). -/
def State.admits (s : State) (a : AxisId) (segs : List Segment) (t : State) : Prop :=
  t.axis a = { s.axis a with queue := (s.axis a).queue ++ segs } ∧ (∀ b, b ≠ a → t.axis b = s.axis b)
    ∧ t.poolFree = s.poolFree - segs.length
    ∧ (∀ g, t.group g = { s.group g with refCount := (s.group g).refCount + gatedOn g segs })
    ∧ t = { s with axes := t.axes, groups := t.groups, poolFree := t.poolFree }

/-! ## Beginning a head -/

/-- The context of a MOVE or SEEK that becomes active from standstill (R28, R32, R69). -/
def Segment.freshCtx (seg : Segment) : Ctx :=
  ⟨seg, .stepping, 0, 0, none, none, 0, none, if seg.body.isSeek then some .opened else none, none, false⟩

/-- The axis once a pulse whose width has run out at the clock `now` has ended; a DIR change that waited for its end has taken place then
(R170, R171). -/
def Axis.pulseOver (now : Nat) (x : Axis) : Axis :=
  if x.output.high = true ∧ x.output.pulseEnd ≤ now then
    { x with
      output := { x.output with
        high := false
        dirShown := x.output.turnTo.getD x.output.dirShown
        dirChangedAt := if x.output.turnTo.isSome then x.output.pulseEnd else x.output.dirChangedAt
        turnTo := none } }
  else x

/-- What a step in direction `dir` that falls due at the clock `now` does to DIR, and the clock `due` at which its pulse may begin: with
DIR as it is, against it with STEP low, against it with STEP high (R35, R170, R171). A DIR change that waited for another step is given
up (log 13), and a direction that DIR alone shows is led from the change made before (log 12). The rules are followed where a worked
example has otherwise (log 32). -/
def Axis.turnsFor (now : Nat) (dir : Dir) (x y : Axis) (due : Nat) : Prop :=
  (x.output.dirShown = dir ∧ y = { x with output := { x.output with turnTo := none } }
    ∧ due = max now (max (if x.lastDir = dir then now else x.output.dirChangedAt + 4 * x.settings.dirLead) x.output.nextPulse))
  ∨ (x.output.dirShown ≠ dir ∧ x.output.high = false
    ∧ y = { x with output := { x.output with dirShown := dir, dirChangedAt := now, turnTo := none } }
    ∧ due = max now (max (now + 4 * x.settings.dirLead) x.output.nextPulse))
  ∨ (x.output.dirShown ≠ dir ∧ x.output.high = true ∧ y = { x with output := { x.output with turnTo := some dir } }
    ∧ due = max now (max (x.output.pulseEnd + 4 * x.settings.dirLead) x.output.nextPulse))

/-- The reports of MARKs that complete at the head of the queue of `x`, one after another: each Mark Reached, and the Queue Low of its
departure (R33, R44). -/
def marksReached (a : AxisId) : List Segment → Axis → List ReportBody
  | [], _ => []
  | m :: ms, x =>
    .markReached a m.tag x.position x.encoder.position :: (x.lowAfterOne a ++ marksReached a ms { x with queue := x.queue.tail })

/-- The head of `x`, an axis at standstill, becomes active at the clock `now` (R32 steps 2 and 3, R104): `x` becomes `y`, these reports
are created, and these segments leave; nothing outside the axis is touched but slots, references and reports. MARKs complete, and the
ungated head behind them begins in turn (R33, R44). Then: nothing, and the axis is starved (R40); a DWELL, which is timed (R43); a MOVE
or SEEK, whose first step falls due at once (R37): it waits for DIR or for the pulse spacing, or it is issued, not the last of its
segment, at no active limit and with FE within its own. Every other course of that step is in `settles`. -/
def Axis.activates (now : Nat) (a : AxisId) (x y : Axis) (reports : List ReportBody) (gone : List Segment) : Prop :=
  ∃ q z, x.queue = gone ++ q ∧ (∀ m ∈ gone, m.body = .mark) ∧ (∀ m ∈ gone.tail, m.gate = none)
    ∧ (gone ≠ [] → ∀ seg ∈ q.head?, seg.gate = none) ∧ reports = marksReached a gone x ∧ z = { x with st := .run, queue := q }
    ∧ ((gone ≠ [] ∧ q = [] ∧ y = { z with rate := 0, ctx := none })
      ∨ (∃ seg d r, q.head? = some seg ∧ seg.body = .dwell d r
        ∧ y = { z with rate := 0, ctx := some ⟨seg, .timing, 0, d, none, none, 0, none, none, none, false⟩ })
      ∨ (∃ seg w due, q.head? = some seg ∧ seg.body.makesSteps = true
        ∧ (z.pulseOver now).turnsFor now seg.body.dir w due ∧
        (0 < seg.body.total ∧ now < due ∧ x.rate = 0 ∧ y = { w with ctx := some { seg.freshCtx with delayed := some due } }
          ∨ 1 < seg.body.total ∧ due ≤ now ∧ w.atLimit seg.body.dir = false ∧ y.followExceeded = false
            ∧ y = w.stepped now (seg.body.profileRate 1) seg.body.dir { seg.freshCtx with stepsDone := 1, lastStep := some now })))

/-- `t` is `s` with axis `a` waiting at the barrier of `g`: standstill, the arrival set, the timer of a first arrival (R102). -/
def State.waitsAt (s : State) (a : AxisId) (g : GroupId) (t : State) : Prop :=
  t = (s.setAxis a { s.axis a with st := .gate, rate := 0 }).setGroup g { s.group g with
    arrived := (s.group g).arrived ||| axisBit a
    timer :=
      if (s.group g).arrived = 0 ∧ (s.group g).timeout ≠ 0 then some (s.micros + (s.group g).timeout * 1000)
      else (s.group g).timer }

/-- `t` is `s` with group `g` released, each of its members `m` become `y m` with its reports and its segments gone (R103, R104): the set empty,
the timer stopped, the round one higher, Group Released if asked for, then the reports of the members in ascending axis number. -/
def State.releases (s : State) (g : GroupId) (y : AxisId → Axis) (reports : AxisId → List ReportBody) (gone : AxisId → List Segment)
    (t : State) : Prop :=
  ∃ members allGone, members = ([0, 1, 2, 3] : List AxisId).filter (fun m => inSet (s.group g).members m)
    ∧ allGone = members.flatMap gone
    ∧ (∀ m, t.axis m = if m ∈ members then y m else s.axis m)
    ∧ t.group g = { s.groupLess allGone g with arrived := 0, timer := none, round := (s.group g).round + 1 }
    ∧ (∀ h, h ≠ g → t.group h = s.groupLess allGone h)
    ∧ t.poolFree = s.poolFree + allGone.length
    ∧ t.reports = s.reports.createAll s.deviceTime
        ((if (s.group g).releaseReport then [.groupReleased g ((s.group g).round + 1)] else []) ++ members.flatMap reports)
    ∧ t = { s with axes := t.axes, groups := t.groups, poolFree := t.poolFree, reports := t.reports }

/-! ## What one event sets going

A beginning, an activation or a step that falls due is a `Task` of its event (Machine/Motion.lean, log 27). `taskDoes` says what each does by
the rules, and which tasks it leaves to be done before the rest; `settles` does them all. -/

/-- `s` with group `g` released: the set empty, the timer stopped, the round one higher, Group Released if asked for (R103). -/
def State.released (s : State) (g : GroupId) : State :=
  { s.setGroup g { s.group g with arrived := 0, timer := none, round := (s.group g).round + 1 } with
    reports := s.reports.createAll s.deviceTime
      (if (s.group g).releaseReport then [.groupReleased g ((s.group g).round + 1)] else []) }

/-- The axis may begin a head: in READY, HELD, RUN or GATE with no active segment, in no arrival set (R32, R102). -/
def State.mayStart (s : State) (a : AxisId) : Prop :=
  (s.axis a).ctx = none ∧ (s.axis a).st ∈ ([.ready, .held, .run, .gate] : List AxisState) ∧ ∀ g, inSet (s.group g).arrived a = false

/-- Axis `a` begins the head of its queue (R32 step 1): starved without one (R40), standstill and arrival with a gated one, which waits
(R102) or releases the group, whose members are then activated in ascending axis number (R42, R103, R104); an ungated one is activated.
-/
def State.headBegins (s : State) (a : AxisId) (carry : Option Nat) (t : State) (more : List Task) : Prop :=
  s.mayStart a ∧
    ((s.axis a).queue = [] ∧ t = s.setAxis a { s.axis a with st := .run, rate := 0 } ∧ more = []
    ∨ ∃ seg q, (s.axis a).queue = seg :: q ∧
      (seg.gate = none ∧ t = s ∧ more = [.activate a carry]
      ∨ ∃ g, seg.gate = some g ∧
        ((s.group g).arrived ||| axisBit a ≠ (s.group g).members ∧ s.waitsAt a g t ∧ more = []
        ∨ (s.group g).arrived ||| axisBit a = (s.group g).members
          ∧ t = (s.setAxis a { s.axis a with rate := 0 }).released g
          ∧ more = (([0, 1, 2, 3] : List AxisId).filter (fun m => inSet (s.group g).members m)).map (.activate · none))))

/-- The head of axis `a` becomes active (R32 steps 2 and 3): a DWELL is timed at rate 0 (R43); a MARK completes, with rate and last step
time untouched, and the next head begins (R33, R44); a MOVE or SEEK at a rate above 0, for which `carry` is the last step time of the
hand-over, keeps both (R37, R39); one from standstill has its first step due at once. -/
def State.headActivates (s : State) (a : AxisId) (carry : Option Nat) (t : State) (more : List Task) : Prop :=
  s.mayStart a ∧ ∃ x seg q, x = s.axis a ∧ x.queue = seg :: q ∧
    ((∃ d r, seg.body = .dwell d r ∧ more = []
        ∧ t = s.setAxis a { x with
            st := .run, rate := 0, ctx := some ⟨seg, .timing, 0, d, none, none, 0, none, none, none, false⟩ })
      ∨ (seg.body = .mark ∧ more = [.beginHead a (if x.rate = 0 then none else carry)]
        ∧ s.changesTo a { x with st := .run, ctx := none, queue := q }
            (.markReached a seg.tag x.position x.encoder.position :: x.lowAfterOne a) [seg] t)
      ∨ (seg.body.makesSteps = true ∧
        ((∃ last, carry = some last ∧ x.rate ≠ 0 ∧ more = []
            ∧ t = s.setAxis a { x with st := .run, ctx := some { seg.freshCtx with lastStep := some last } })
          ∨ ((carry = none ∨ x.rate = 0) ∧ more = [.stepNow a]
            ∧ t = s.setAxis a { x with st := .run, ctx := some seg.freshCtx }))))

/-- A step of the active MOVE or SEEK of axis `a` falls due in RUN, in STEPPING or on the resume ramp. It waits for DIR or for the pulse
spacing (R35, R170, R171); it is withheld at an active limit, and the limit cause is raised (R34, R118); or it is issued (R34). An issued
one that leaves FE beyond its limit raises FOLLOW (R90; in place of its own effects, log 28). The last step completes a MOVE, with
Underrun where nothing stands behind it, and the next head begins (R38, R39, R41); it ends a SEEK that is not found with NOT_FOUND in
HELD (R75). -/
def State.stepComesDue (s : State) (a : AxisId) (t : State) (more : List Task) : Prop :=
  ∃ x c q y due, x = (s.axis a).pulseOver s.clock ∧ x.st = .run ∧ x.ctx = some c ∧ x.queue = c.seg :: q
    ∧ c.seg.body.makesSteps = true ∧ (c.phase = .stepping ∨ c.phase = .ramp) ∧ c.brake = none ∧ c.delayed = none
    ∧ c.stepsDone < c.seg.body.total ∧ x.turnsFor s.clock c.seg.body.dir y due ∧
    ((s.clock < due ∧ t = s.setAxis a { y with ctx := some { c with delayed := some due } } ∧ more = [])
      ∨ (due ≤ s.clock ∧ y.atLimit c.seg.body.dir = true ∧ more = []
        ∧ t = (s.setAxis a y).raiseCause a (if c.seg.body.dir = .positive then .limitPos else .limitNeg))
      ∨ (due ≤ s.clock ∧ y.atLimit c.seg.body.dir = false ∧ ∃ z k, k = { c with
            stepsDone := c.stepsDone + 1, lastStep := some s.clock
            rampSteps := if c.phase = .ramp then c.rampSteps + 1 else c.rampSteps }
          ∧ z = y.stepped s.clock (c.nextRate x.settings) c.seg.body.dir k ∧
        ((z.followExceeded = true ∧ t = (s.setAxis a z).raiseCause a .follow ∧ more = [])
          ∨ (z.followExceeded = false ∧ k.stepsDone < c.seg.body.total ∧ t = s.setAxis a z ∧ more = [])
          ∨ (z.followExceeded = false ∧ k.stepsDone = c.seg.body.total ∧ ∃ n S E r, c.seg.body = .move n S E r
            ∧ more = [.beginHead a (some s.clock)]
            ∧ s.changesTo a { z with ctx := none, queue := q }
                ((if r then [.segmentDone a c.seg.tag z.position] else []) ++ x.lowAfterOne a
                  ++ (if q = [] ∧ x.settings.baseRate < E then [.underrun a c.seg.tag E] else [])) [c.seg] t)
          ∨ (z.followExceeded = false ∧ k.stepsDone = c.seg.body.total ∧ c.seg.body.isSeek = true ∧ c.watch = some .opened ∧ more = []
            ∧ s.changesTo a { z with st := .held, rate := 0, ctx := none, queue := q }
                (.seekResult a c.seg.tag false k.stepsDone none none :: x.lowAfterOne a) [c.seg] t))))

/-- What one task of an event does, and the tasks it leaves. -/
def State.taskDoes (s : State) (t : State) (more : List Task) : Task → Prop
  | .beginHead a carry => s.headBegins a carry t more
  | .activate a carry => s.headActivates a carry t more
  | .stepNow a => s.stepComesDue a t more

/-- `s.settles tasks t`: the tasks, each with all that it leaves before the next, take `s` to `t` (R33, R104). -/
inductive State.settles : State → List Task → State → Prop
  | done (s : State) : State.settles s [] s
  | task {s u t : State} {task : Task} {more rest : List Task} (first : s.taskDoes u more task)
      (others : State.settles u (more ++ rest) t) : State.settles s (task :: rest) t

/-- Axis `a` of `s`, without an active segment, begins its head, and all that this sets going takes the block to `t` (R32, R39); `carry`
is the last step time that a hand-over after a MOVE carries. -/
def State.begins (s : State) (a : AxisId) (carry : Option Nat) (t : State) : Prop := s.settles [.beginHead a carry] t

/-! ## The line -/

/-- Bytes delivered one after another, each by its own command (R152). -/
def State.receive (s : State) (bytes : List Byte) : State :=
  bytes.foldl (fun s b =>
    match exec (.byteDelivered b) s with
    | .next t => t
    | .fault _ | .refused _ => s) s

/-- The flags byte of a segment record (R182). -/
def recordFlags (reportOnEnd : Bool) (gate : Option GroupId) : Byte :=
  flagBit 0 reportOnEnd ||| flagBit 1 gate.isSome ||| ((gate.map fun g => BitVec.ofNat 8 (4 * g.val)).getD 0)

/-- The 14 bytes that carry a segment (R182), every ignored byte and bit 0. -/
def Segment.bytes (seg : Segment) : List Byte :=
  match seg.body with
  | .move steps startRate endRate reportOnEnd =>
    [1, recordFlags reportOnEnd seg.gate] ++ bytes16 seg.tag ++ leBytes 3 (steps % 16777216).toNat ++ leBytes 3 startRate
      ++ leBytes 3 endRate ++ [0]
  | .dwell duration reportOnEnd =>
    [2, recordFlags reportOnEnd seg.gate] ++ bytes16 seg.tag ++ leBytes 3 duration ++ [0, 0, 0, 0, 0, 0, 0]
  | .seek dir rate maxSteps source edge =>
    [3, recordFlags false seg.gate] ++ bytes16 seg.tag
      ++ [flagBit 0 (dir = .negative) ||| flagBit 1 (source = .index) ||| flagBit 2 (edge = .toInactive)] ++ leBytes 3 rate
      ++ leBytes 3 maxSteps ++ [0, 0, 0]
  | .mark => [4, recordFlags false seg.gate] ++ bytes16 seg.tag ++ [0, 0, 0, 0, 0, 0, 0, 0, 0, 0]

/-- R2: the values of a segment lie in their ranges. -/
def SegBody.inRange : SegBody → Prop
  | .move steps startRate endRate _ =>
    steps ≠ 0 ∧ steps.natAbs ≤ 8388607 ∧ 16 ≤ startRate ∧ startRate ≤ 250000 ∧ 16 ≤ endRate ∧ endRate ≤ 250000
  | .dwell duration _ => 1 ≤ duration ∧ duration ≤ 16777215
  | .seek _ rate maxSteps _ _ => 16 ≤ rate ∧ rate ≤ 250000 ∧ 1 ≤ maxSteps ∧ maxSteps ≤ 8388607
  | .mark => True

/-! ## The values after a device reset -/

/-- `t` holds the values of a device reset with this cause over the pins of `s` (R24, R50, R96, R115, R134, R149, R166, R178); what
waits in the command queue stays. -/
def State.afterReset (s : State) (cause : ResetCause) (t : State) : Prop :=
  t.power = .on ∧ t.clock = 0 ∧ t.poolFree = 128 ∧ t.pending = s.pending ∧ t.straps = s.straps ∧ t.baud = s.straps
    ∧ t.trip = ⟨s.trip.raw, s.trip.raw, none⟩
    ∧ (∀ a : AxisId,
        (t.axis a).st = .off ∧ (t.axis a).ctx = none ∧ (t.axis a).position = 0 ∧ (t.axis a).rate = 0
        ∧ (t.axis a).lastDir = .positive ∧ (t.axis a).enaPin = false ∧ (t.axis a).stepPin = false ∧ (t.axis a).dirPin = true
        ∧ (t.axis a).queue = [] ∧ (t.axis a).quota = 32 ∧ (t.axis a).threshold = 4 ∧ (t.axis a).owedFlush = false
        ∧ (t.axis a).faultRecord = none
        ∧ (t.axis a).settings = ⟨200, 50, 2, 2, false, true, false, false, false, 3, 1, false, 4, false⟩
        ∧ (t.axis a).protection = ⟨0, .brake, .halt, .halt, .halt, .halt, .brake, true, false, true⟩
        ∧ (t.axis a).encoder = ⟨0, none, 0, 0, 0, false⟩
        ∧ ∀ i, (t.axis a).inputs.line i = ⟨((s.axis a).inputs.line i).raw, ((s.axis a).inputs.line i).raw, none⟩)
    ∧ (∀ g : GroupId, t.group g = ⟨0, 0, 0, 0, 0, false, none⟩)
    ∧ t.reports = ⟨[⟨0, 0, .resetNotice cause 1, false, false⟩], 1, true, 4, 50, none⟩
    ∧ t.attnActive = true ∧ t.attnPin = false
    ∧ t.link.receiver = .hunting ∧ t.link.gapStart = none ∧ t.link.rxBuffer = [] ∧ t.link.resetPending = false
    ∧ t.link.replySlot = none ∧ t.link.tx = none ∧ t.link.dup.valid = false ∧ t.link.counters = ⟨0, 0, 0, 0, 0, 0, 0⟩
    ∧ t.link.silenceTimeout = 0 ∧ t.link.silenceTimer = none

/-! ## The Segment Store -/

/-- R5: free slots and the four depths add up to the pool. -/
def State.poolWf (s : State) : Prop :=
  s.poolFree + ((s.axis 0).depth + (s.axis 1).depth + (s.axis 2).depth + (s.axis 3).depth) = Config.poolSlots

/-- R6: quota and threshold in range, and no queue over its quota. -/
def State.quotaWf (s : State) : Prop :=
  ∀ a : AxisId, 1 ≤ (s.axis a).quota ∧ (s.axis a).quota ≤ 128 ∧ (s.axis a).threshold ≤ 127 ∧ (s.axis a).depth ≤ (s.axis a).quota

/-- R99: every reference count is the number of queued segments gated on the group, and their axes are members. -/
def State.refCountWf (s : State) : Prop :=
  ∀ g : GroupId,
    (s.group g).refCount = gatedOn g (s.axis 0).queue + gatedOn g (s.axis 1).queue + gatedOn g (s.axis 2).queue
      + gatedOn g (s.axis 3).queue
    ∧ ∀ a : AxisId, ∀ seg ∈ (s.axis a).queue, seg.gate = some g → inSet (s.group g).members a = true

/-! ## The Report Unit -/

/-- Sequences run consecutively, modulo 2^16, up to the one before `next`. -/
def consecutive : List Entry → Word16 → Prop
  | [], _ => True
  | e :: es, next => e.seq + BitVec.ofNat 16 (es.length + 1) = next ∧ consecutive es next

/-- R139: at most 32 entries, consecutive sequences, and an Overflow entry, if any, alone at the newest place; without one at most
31 entries. -/
def ReportUnit.queueWf (r : ReportUnit) : Prop :=
  r.queue.length ≤ Config.reportEntries
    ∧ consecutive r.queue r.nextSeq
    ∧ (∀ e ∈ r.queue.dropLast, e.body.isOverflow = false)
    ∧ ((∀ e ∈ r.queue, e.body.isOverflow = false) → r.queue.length < Config.reportEntries)

/-- A property holds for a first part of a list and for nothing behind it. -/
def onlyAtFront (p : Entry → Bool) : List Entry → Prop
  | [] => True
  | e :: es => (p e = false → ∀ e' ∈ es, p e' = false) ∧ onlyAtFront p es

/-- R141: the entries in flight and the entries once sent are the oldest, those in flight number no more than the window, and each
has its once-sent mark set. -/
def ReportUnit.marksWf (r : ReportUnit) : Prop :=
  onlyAtFront (·.inFlight) r.queue ∧ onlyAtFront (·.onceSent) r.queue ∧ r.inFlightCount ≤ r.window
    ∧ ∀ e ∈ r.queue, e.inFlight = true → e.onceSent = true

/-! ## The axes -/

/-- R28: steps done never exceed the segment's steps, and a step that waits is one the segment still has. -/
def Ctx.stepsWf (c : Ctx) : Prop :=
  (c.seg.body.makesSteps = true → c.stepsDone ≤ c.seg.body.total) ∧ (c.delayed.isSome = true → c.stepsDone < c.seg.body.total)

/-- R28 on every axis; R171: a DIR change waits only while STEP is high. -/
def State.stepsWf (s : State) : Prop :=
  ∀ a : AxisId, (∀ c, (s.axis a).ctx = some c → c.stepsWf)
    ∧ ((s.axis a).output.turnTo.isSome = true → (s.axis a).output.high = true)

/-- R121: a fault record exactly in FAULT_BRAKE and FAULT. -/
def Axis.recordWf (x : Axis) : Prop := x.faultRecord.isSome = true ↔ (x.st = .faultBrake ∨ x.st = .fault)

/-- R26: the states with, without, and perhaps with an active segment; R8: an active segment is the head of its queue; R52: the
phases and states that brake hold the brake fields. -/
def Axis.activeWf (x : Axis) : Prop :=
  (∀ c, x.ctx = some c → x.queue.head? = some c.seg ∧ (c.phase = .settle → c.brake.isSome = true))
    ∧ (x.st = .off ∨ x.st = .ready ∨ x.st = .gate ∨ x.st = .fault → x.ctx = none)
    ∧ (x.st = .holding ∨ x.st = .stopping ∨ x.st = .faultBrake →
        ∃ c, x.ctx = some c ∧ c.seg.body.makesSteps = true ∧ c.brake.isSome = true)

/-- R102: who is in an arrival set is a member, is in GATE, and its head names that group. -/
def State.arrivalWf (s : State) : Prop :=
  ∀ g : GroupId, ∀ a : AxisId, inSet (s.group g).arrived a = true →
    inSet (s.group g).members a = true ∧ (s.axis a).st = .gate ∧ (s.axis a).headGate = some g

/-- The states of the axes, their active segments, their fault records and the arrival sets agree (R8, R26, R102, R121). -/
def State.axesWf (s : State) : Prop :=
  (∀ a : AxisId, (s.axis a).recordWf ∧ (s.axis a).activeWf) ∧ s.arrivalWf

/-- R26, R40, R102, R103, between events: RUN without an active segment is starved; an axis in GATE is in the arrival set of the
group its head names; no arrival set is complete. -/
def State.restWf (s : State) : Prop :=
  (∀ a : AxisId, (s.axis a).st = .run → (s.axis a).ctx = none → (s.axis a).queue = [])
    ∧ (∀ a : AxisId, (s.axis a).st = .gate → ∃ g, (s.axis a).headGate = some g ∧ inSet (s.group g).arrived a = true)
    ∧ (∀ g : GroupId, (s.group g).members ≠ 0 → (s.group g).arrived ≠ (s.group g).members)

/-! ## The Command Link and the settings -/

/-- R153, R163: at most two frames wait, and every counter stays in its range. -/
def Link.wf (l : Link) : Prop :=
  l.rxBuffer.length ≤ Config.rxFrames
    ∧ l.counters.crcErrors ≤ 65535 ∧ l.counters.lengthErrors ≤ 65535 ∧ l.counters.frameTimeouts ≤ 65535
    ∧ l.counters.overruns ≤ 65535 ∧ l.counters.duplicates ≤ 65535 ∧ l.counters.retransmits ≤ 65535
    ∧ l.counters.linkResets ≤ 65535

/-- R168: every number among the axis settings lies in its values. -/
def AxisSettings.wf (x : AxisSettings) : Prop :=
  16 ≤ x.baseRate ∧ x.baseRate ≤ 50000 ∧ 1 ≤ x.decrement ∧ x.decrement ≤ 65535 ∧ 1 ≤ x.pulseWidth ∧ x.pulseWidth ≤ 63
    ∧ 1 ≤ x.dirLead ∧ x.dirLead ≤ 63 ∧ x.switchFilter ≤ 7 ∧ x.encoderFilter ≤ 3 ∧ 1 ≤ x.countsPerStep ∧ x.countsPerStep ≤ 64

/-- R98, R130, R146, R161, R168: every setting of the block lies in its values. -/
def State.settingsWf (s : State) : Prop :=
  (∀ a : AxisId, (s.axis a).settings.wf ∧ (s.axis a).protection.followLimit ≤ 65535)
    ∧ (∀ g : GroupId, setSize (s.group g).members ≠ 1 ∧ (s.group g).timeout ≤ 60000)
    ∧ (1 ≤ s.reports.window ∧ s.reports.window ≤ 8 ∧ 5 ≤ s.reports.timeout ∧ s.reports.timeout ≤ 1275 ∧ s.reports.timeout % 5 = 0)
    ∧ (s.link.silenceTimeout = 0 ∨ (10 ≤ s.link.silenceTimeout ∧ s.link.silenceTimeout ≤ 10000))

end Sys2Proof.Machine
end

