-- ==== Sys2Proof/Certificates/Slice0/Obligations.lean ====
section
/-!
DEFINITION. Certificates/Slice0/Obligations.lean: the statements for the provers.
In a statement about a request, `s.offers f rest` says that the decoder can take the frame `f` as a new request, and
`s.answered f rest payload` is `s` with the frame taken and answered, everything else as it was. An equation of the whole next state
is the command's result, its completion and its frame in one.
-/

open Sys2Proof Sys2Proof.Machine

/-! ## The step -/

/-- A step runs the command at the front of the queue on the state with the queue's rest. -/
def Obligations.StepRunsTheFrontCommand : Prop :=
  ∀ (c : Instr) (rest : List Instr) (s : State), s.pending = c :: rest → step s = exec c { s with pending := rest }

/-- What an idle block does (the model's choice, log 2): nothing without supply or in reset, 250 ns when no event is due, the event
that is due, or one of several. Which events are due when: a step (R34, R35, R37), the end of a pulse (R170), of a dwell (R43), of a filter
time (R173, R174), a timer (R108, R142, R161), a frame for the decoder (R156, R157), a frame for the transmitter and its end (R141, R159);
the marks of a TRIP, a SILENCE and an index edge on their way are the model's (logs 14, 15), and so are the time of a frame's end and the
byte time by which a gap is waited for (logs 17, 18); what comes from outside is never due. R175, R43: what the passing of time changes:
the clock (in units of 250 ns, log 3), so the device time, which counts whole microseconds and wraps, and the dwell time left of each DWELL
that is TIMING, which falls with it. -/
def Obligations.IdleBlockActsOfItself : Prop :=
  (∀ s : State, s.pending = [] →
    (s.power ≠ .on → step s = .next s)
    ∧ (s.power = .on → s.dueEvents = [] → step s = .next (s.passTo (s.clock + 1)))
    ∧ (∀ c, s.power = .on → s.dueEvents = [c] → step s = exec c s)
    ∧ (∀ c d cs, s.power = .on → s.dueEvents = c :: d :: cs →
        ∃ e ∈ c :: d :: cs, step s = exec e { s with freeCount := s.freeCount + 1 }))
  ∧ (∀ (s : State) (c : Instr), c ∈ s.dueEvents ↔
    match c with
    | .loadSegments => s.requestWaits 0x10
    | .trimQueue => s.requestWaits 0x11
    | .flushQueue => s.requestWaits 0x12
    | .configureQueue => s.requestWaits 0x13
    | .enableAxis => s.requestWaits 0x20
    | .disableAxis => s.requestWaits 0x21
    | .startAxis => s.requestWaits 0x22
    | .holdAxis => s.requestWaits 0x23
    | .resumeAxis => s.requestWaits 0x24
    | .stopAxis => s.requestWaits 0x25
    | .setPosition => s.requestWaits 0x26
    | .defineGroup => s.requestWaits 0x30
    | .readGroupStatus => s.requestWaits 0x31
    | .configureProtection => s.requestWaits 0x38
    | .clearFault => s.requestWaits 0x39
    | .configureReports => s.requestWaits 0x40
    | .acknowledgeReports => s.requestWaits 0x41
    | .replayReports => s.requestWaits 0x42
    | .configureLink => s.requestWaits 0x50
    | .readLinkStatus => s.requestWaits 0x51
    | .resetDevice => s.requestWaits 0x52
    | .noOperation => s.requestWaits 0x53
    | .configureAxis => s.requestWaits 0x60
    | .readAxisStatus => s.requestWaits 0x61
    | .readDeviceInfo => s.requestWaits 0x62
    | .unknownRequest => ∃ code, code ∉ requestCodes ∧ s.requestWaits code
    | .duplicate => ∃ f, s.frameWaits f ∧ s.link.dup.valid = true ∧ s.link.dup.seq = f.seq
    | .replyFrameBegin => s.link.tx = none ∧ ∃ r, s.link.replySlot = some ⟨r, false⟩
    | .reportFrameBegin => s.link.tx = none ∧ (∀ r, s.link.replySlot ≠ some ⟨r, false⟩) ∧ s.reports.streaming = true
        ∧ s.reports.inFlightCount < s.reports.window ∧ ∃ e ∈ s.reports.queue, e.inFlight = false
    | .replyFrameEnd => ∃ t, s.link.tx = some t ∧ t.kind = .reply ∧ t.doneAt ≤ s.clock
    | .reportFrameEnd => ∃ t, s.link.tx = some t ∧ t.kind = .report ∧ t.doneAt ≤ s.clock
    | .frameTimeout => ∃ t, s.link.gapStart = some t ∧ t + 8001 + lineTime s.baud.lineRate 1 ≤ s.clock
    | .retransmitTimerExpiry => ∃ t, s.reports.timer = some t ∧ t ≤ s.micros
    | .silenceTimerExpiry => ∃ t, s.link.silenceTimer = some t ∧ t ≤ s.micros
    | .barrierTimerExpiry g => ∃ t, (s.group g).timer = some t ∧ t ≤ s.micros
    | .silenceCause a => (s.axis a).silencePending = true
    | .tripCause a => (s.axis a).tripPending = true
    | .stepDue a => ∃ k, (s.axis a).ctx = some k ∧ (s.axis a).st ∈ ([.run, .holding, .stopping, .faultBrake] : List AxisState)
        ∧ k.hasNextStep = true ∧ k.delayed = none ∧ k.nextDue (s.axis a).settings ≤ s.clock
    | .delayedStepIssue a => ∃ k t, (s.axis a).ctx = some k ∧ k.seg.body.makesSteps = true
        ∧ (s.axis a).st ∈ ([.run, .holding, .stopping, .faultBrake] : List AxisState) ∧ k.delayed = some t ∧ t ≤ s.clock
    | .stepPulseEnd a => (s.axis a).output.high = true ∧ (s.axis a).output.pulseEnd ≤ s.clock
    | .dwellExpiry a => ∃ k, (s.axis a).ctx = some k ∧ (s.axis a).st = .run ∧ k.phase = .timing ∧ k.dwellLeft = 0
    | .limitInputChange a .positive => s.deliveryDue a .limp
    | .limitInputChange a .negative => s.deliveryDue a .limn
    | .dfltChange a => s.deliveryDue a .dflt
    | .homeInputChange a => s.deliveryDue a .home ∧ ¬(s.axis a).triggeredBy .home (!(s.axis a).inputActive .home)
    | .tripChange => ∃ t, s.trip.due = some t ∧ t ≤ s.clock
    | .seekTriggerEdge a =>
        ((s.axis a).st = .run ∨ (s.axis a).st = .holding)
            ∧ (∃ k, (s.axis a).ctx = some k ∧ k.edgePending = true ∧ k.watch = some .opened)
          ∨ s.deliveryDue a .home ∧ (s.axis a).triggeredBy .home (!(s.axis a).inputActive .home)
          ∨ s.deliveryDue a .enci ∧ (s.axis a).triggeredBy .index (!(s.axis a).inputActive .enci)
            ∧ (s.axis a).encoder.edgePending = false
    | .indexEdge a => (s.axis a).encoder.edgePending = true ∨ s.deliveryDue a .enci
    | .quadratureTransition a => s.deliveryDue a .enca ∨ s.deliveryDue a .encb
    | .rawInputChange .. | .byteDelivered _ | .frameReceived _ | .lengthError _ | .breakRecognised | .linkReset | .powerOn
    | .powerLoss | .resetnAssert | .resetnRelease => False)
  ∧ (∀ s : State, s.deviceTime = BitVec.ofNat 32 (s.clock / 4) ∧ s.micros = s.clock / 4)
  ∧ (∀ (s t : State) (q : Nat), s.clock ≤ q → t = s.passTo q →
    t = { s with clock := q, axes := t.axes }
    ∧ t.deviceTime = s.deviceTime + BitVec.ofNat 32 (q / 4 - s.clock / 4)
    ∧ ∀ a, t.axis a = { s.axis a with
        ctx := (s.axis a).ctx.map fun c =>
          if c.phase = .timing then { c with dwellLeft := c.dwellLeft - (q / 4 - s.clock / 4) } else c })

/-- Every command answers a next state and leaves the commands that wait as they are (log 1). -/
def Obligations.EveryCommandAnswersAndLeavesTheQueue : Prop :=
  ∀ (c : Instr) (s : State), ∃ t, exec c s = .next t ∧ t.pending = s.pending ∧ t.freeCount = s.freeCount

/-! ## Arithmetic (R36, R53, R89) -/

/-- R36: the rate of step k of a MOVE; the first is S, the last E, and those between lie monotonically between them. The step issued at
k − 1 steps done has it in STEPPING; a SEEK has its constant rate (R69); on the resume ramp the j-th step has the lower of that rate and
B + j·D (R62). -/
def Obligations.MoveRatesRunFromStartToEnd : Prop :=
  (∀ S E k : Nat, moveRate 1 S E k = S)
    ∧ (∀ n S E k : Nat, 2 ≤ n → 1 ≤ k → k ≤ n →
        (moveRate n S E k : Int) = S + Int.tdiv (((E : Int) - S) * ((k : Int) - 1)) ((n : Int) - 1))
    ∧ (∀ n S E : Nat, 2 ≤ n → moveRate n S E 1 = S ∧ moveRate n S E n = E)
    ∧ (∀ n S E k : Nat, 2 ≤ n → 1 ≤ k → k < n →
        (S ≤ E → moveRate n S E k ≤ moveRate n S E (k + 1)) ∧ (E ≤ S → moveRate n S E (k + 1) ≤ moveRate n S E k))
    ∧ (∀ (n : Int) (S E k : Nat) (r : Bool), (SegBody.move n S E r).profileRate k = moveRate n.natAbs S E k)
    ∧ (∀ d rate max src e k, (SegBody.seek d rate max src e).profileRate k = rate)
    ∧ moveRate 4 2000 1000 2 = 1667 ∧ moveRate 4 2000 1000 3 = 1334
    ∧ (∀ (steps : Int) (S E : Nat) (r : Bool) (set : AxisSettings) (c : Ctx), c.seg.body = .move steps S E r →
        (c.phase = .stepping → c.nextRate set = moveRate steps.natAbs S E (c.stepsDone + 1))
        ∧ (c.phase = .ramp → c.nextRate set =
            min (moveRate steps.natAbs S E (c.stepsDone + 1)) (set.baseRate + (c.rampSteps + 1) * set.decrement)))
    ∧ (∀ (d : Dir) (rate max : Nat) (src : TrigSource) (e : TrigEdge) (set : AxisSettings) (c : Ctx),
        c.seg.body = .seek d rate max src e →
        (c.phase = .stepping → c.nextRate set = rate)
        ∧ (c.phase = .ramp → c.nextRate set = min rate (set.baseRate + (c.rampSteps + 1) * set.decrement)))

/-- R53: brake step j has the rate c − j·D and is issued while that rate is above B, so N is the number of j of 1 or more with
c − j·D above B. -/
def Obligations.BrakeCountIsTheStepsAboveTheBaseRate : Prop :=
  (∀ c B D : Nat, 1 ≤ D → ∀ j : Nat, 1 ≤ j → (j ≤ brakeCount c B D ↔ B < c - j * D))
    ∧ (∀ c B D : Nat, c ≤ B → brakeCount c B D = 0)
    ∧ (∀ c B D : Nat, 1 ≤ D → B < c → brakeCount c B D = (c - B - 1) / D)
    ∧ (∀ c B D j : Nat, 1 ≤ D → 16 ≤ B → 1 ≤ j → j ≤ brakeCount c B D → 17 ≤ c - j * D)
    ∧ (∀ (ph : Phase) (rate : Nat) (set : AxisSettings) (c : Ctx),
        c.beginBrake ph rate set =
          { c with phase := ph, delayed := none, brake := some ⟨rate, 0, brakeCount rate set.baseRate set.decrement⟩ })
    ∧ (∀ (set : AxisSettings) (c : Ctx) (b : Brake), c.phase = .brake ∨ c.phase = .settle → c.brake = some b →
        c.nextRate set = b.start - (b.issued + 1) * set.decrement
        ∧ (c.hasNextStep = true ↔
            c.seg.body.makesSteps = true ∧ c.stepsDone < c.seg.body.total ∧ b.issued < b.count))

/-- R89, R90: FE is the encoder position less K times the commanded position, read as signed; an evaluation raises FOLLOW when its
magnitude exceeds the limit, and does nothing else. R90, R91: a step whose evaluation exceeds the limit: FOLLOW meets the axis with that
step counted and the segment still active, before the step's own effects. As a first cause it is raised in place of those effects (the
model's reading, log 28); under HALT the segment is aborted, be it at its last step; under BRAKE a segment whose steps are all done, or a
brake that is complete, ends in FAULT at once. In FAULT_BRAKE it joins the record: under HALT the brake is cut, under BRAKE the step's own
effects follow. -/
def Obligations.FollowingErrorIsComparedWithItsLimit : Prop :=
  (∀ x : Axis,
    x.fe = x.encoder.position - BitVec.ofNat 32 x.settings.countsPerStep * x.position
    ∧ (x.followExceeded = true ↔
        x.settings.encoderEnable = true ∧ x.st ≠ .off ∧ x.protection.followLimit ≠ 0
          ∧ x.protection.followLimit < x.fe.toInt.natAbs)
    ∧ (x.fe = BitVec.intMin 32 → x.fe.toInt.natAbs = 2147483648))
  ∧ (∀ (s : State) (a : AxisId),
    s.evaluateFollow a = if (s.axis a).followExceeded = true then s.raiseCause a .follow else s)
  ∧ ∀ (s : State) (a : AxisId) (x w y : Axis) (c k : Ctx) (q : List Segment) (i : Instr) (done : List ReportBody), x = s.axis a →
    x.ctx = some c → x.queue = c.seg :: q → x.st ∈ ([.run, .holding, .stopping, .faultBrake] : List AxisState) →
    c.hasNextStep = true → x.limitPasses c.seg.body.dir w → x.output.high = false → x.stepComes a c s.clock i →
    k = { c with
      stepsDone := c.stepsDone + 1
      lastStep := some s.clock
      delayed := none
      brake := if c.phase = .brake ∨ c.phase = .settle then c.brake.map (fun b => { b with issued := b.issued + 1 }) else c.brake
      rampSteps := if c.phase = .ramp then c.rampSteps + 1 else c.rampSteps } →
    y = w.stepped s.clock (c.nextRate x.settings) c.seg.body.dir k → y.followExceeded = true →
    done = (match c.seg.body with
      | .move _ _ _ r => if r then [.segmentDone a c.seg.tag y.position] else []
      | .seek .. => if c.watch = some .found then [] else [.seekResult a c.seg.tag false k.stepsDone none none]
      | .dwell .. | .mark => []) →
    (x.st ≠ .faultBrake → exec i s = .next ((s.setAxis a y).raiseCause a .follow))
    ∧ (∀ (ena : Bool) (bodies : List ReportBody), x.st ≠ .faultBrake →
      (x.protection.followPolicy = .halt ∧ ena = false ∧ bodies = [.segmentAborted a c.seg.tag .fault k.stepsDone]
        ∨ x.protection.followPolicy = .brake ∧ ena = x.protection.keepEnable
          ∧ (k.stepsDone = c.seg.body.total ∧ bodies = done
            ∨ k.stepsDone ≠ c.seg.body.total ∧ bodies = [.segmentAborted a c.seg.tag .fault k.stepsDone]
              ∧ (c.brake = none ∧ brakeCount y.rate x.settings.baseRate x.settings.decrement = 0
                ∨ ∃ b, k.brake = some b ∧ b.count ≤ b.issued))) →
      ∃ t, exec i s = .next t
      ∧ t.axis a = { y with
          st := .fault, ena := ena, rate := 0, owedFlush := false, ctx := none, queue := q
          enaAfterBrake := if x.protection.followPolicy = .brake then ena else x.enaAfterBrake
          faultRecord := some ⟨.follow, 0, s.deviceTime, y.position, x.encoder.position, y.fe, some c.seg.tag, x.st⟩ }
      ∧ t.reports = s.reports.createAll s.deviceTime
          (.faultRaised a .follow y.position x.encoder.position y.fe (some c.seg.tag) :: bodies ++ x.lowAfterOne a)
      ∧ (∀ b, b ≠ a → t.axis b = s.axis b) ∧ t.poolFree = s.poolFree + 1 ∧ (∀ g, t.group g = s.groupLess [c.seg] g)
      ∧ t = { s with axes := t.axes, groups := t.groups, poolFree := t.poolFree, reports := t.reports })
    ∧ (∀ r z, x.st = .faultBrake → w.faultRecord = some r →
      z = { y with faultRecord := some { r with additional := r.additional ||| 8#8 } } →
      (∀ b, x.protection.followPolicy = .brake → k.stepsDone ≠ c.seg.body.total → k.brake = some b → b.issued < b.count →
        exec i s = .next (s.setAxis a z))
      ∧ (∀ (ena : Bool) (bodies : List ReportBody),
        (x.protection.followPolicy = .halt ∧ ena = false ∧ bodies = [.segmentAborted a c.seg.tag .fault k.stepsDone]
          ∨ x.protection.followPolicy = .brake ∧ ena = x.enaAfterBrake ∧ k.brake.isSome = true
            ∧ (k.stepsDone = c.seg.body.total ∧ bodies = done
              ∨ k.stepsDone ≠ c.seg.body.total ∧ (∃ b, k.brake = some b ∧ b.count ≤ b.issued)
                ∧ bodies = [.segmentAborted a c.seg.tag .fault k.stepsDone])) →
        ∃ t, exec i s = .next t
        ∧ t.axis a = { z with st := .fault, ena := ena, rate := 0, owedFlush := false, ctx := none, queue := q }
        ∧ t.reports = s.reports.createAll s.deviceTime (bodies ++ x.lowAfterOne a)
        ∧ (∀ b, b ≠ a → t.axis b = s.axis b) ∧ t.poolFree = s.poolFree + 1 ∧ (∀ g, t.group g = s.groupLess [c.seg] g)
        ∧ t = { s with axes := t.axes, groups := t.groups, poolFree := t.poolFree, reports := t.reports }))

/-! ## The line (R179, R181, R182, R152, R153) -/

/-- R182: a valid segment carried in a record is read back with every field. R181: a block of axis settings in range, sent back as Configure
Axis carries it, is read with every field; where each setting stands in it. R180: numbers stand least significant byte first. -/
def Obligations.RecordsAndSettingsReadBack : Prop :=
  (∀ (members : GroupId → BitVec 4) (a : AxisId) (seg : Segment), seg.body.inRange →
    (∀ g, seg.gate = some g → inSet (members g) a = true) →
    seg.bytes.length = 14 ∧ readRecord members a seg.bytes = .ok seg)
  ∧ (∀ (a : AxisId) (set : AxisSettings), set.wf →
    (axisByte a :: set.bytes).length = 17 ∧ readAxisSettings (axisByte a :: set.bytes) = some set)
  ∧ (∀ (a : AxisId) (set : AxisSettings) (p : List Byte), set.wf → p = axisByte a :: set.bytes →
    (byteAt p 0).toNat = a.val ∧ field p 1 2 = set.baseRate ∧ field p 3 2 = set.decrement ∧ (byteAt p 5).toNat = set.pulseWidth
    ∧ (byteAt p 6).toNat = set.dirLead ∧ byteAt p 7 = (if set.dirInverted then 1 else 0)
    ∧ byteAt p 8 = (if set.enaActiveHigh then 1 else 0) ∧ byteAt p 9 = (if set.limitActiveHigh then 1 else 0)
    ∧ byteAt p 10 = (if set.homeActiveHigh then 1 else 0) ∧ byteAt p 11 = (if set.dfltActiveHigh then 1 else 0)
    ∧ (byteAt p 12).toNat = set.switchFilter ∧ (byteAt p 13).toNat = set.encoderFilter
    ∧ byteAt p 14 = (if set.encoderEnable then 1 else 0) ∧ (byteAt p 15).toNat = set.countsPerStep
    ∧ byteAt p 16 = (if set.indexReports then 1 else 0))
  ∧ (∀ (p : List Byte) (i : Nat), byteAt p i = (p[i]?).getD 0
    ∧ field p i 2 = (byteAt p i).toNat + 256 * (byteAt p (i + 1)).toNat
    ∧ field p i 3 = field p i 2 + 65536 * (byteAt p (i + 2)).toNat
    ∧ field p i 4 = field p i 3 + 16777216 * (byteAt p (i + 3)).toNat)

/-- R179, R158, R184: the check value of the digits 1 to 9, the layout of every reply and report frame, and the fields of each of the
twelve report kinds. The unassigned bits of the presence bytes of Seek Result and Fault Raised are 0 (the model's choice, log 31). -/
def Obligations.FramesHaveTheirLayout : Prop :=
  crc16 [0x31, 0x32, 0x33, 0x34, 0x35, 0x36, 0x37, 0x38, 0x39] = 0x29B1#16
    ∧ (∀ r : Reply, r.payload.length ≤ 247 → ∃ lo hi : Byte,
        r.frame = [0x96, BitVec.ofNat 8 (r.payload.length + 3), 2, r.seq, r.code] ++ r.payload ++ [lo, hi]
        ∧ lo.toNat + 256 * hi.toNat =
            (crc16 ([BitVec.ofNat 8 (r.payload.length + 3), 2, r.seq, r.code] ++ r.payload)).toNat)
    ∧ (∀ e : Entry, ∀ payload : List Byte,
        payload = leBytes 2 e.seq.toNat ++ leBytes 4 e.time.toNat ++ e.body.fieldBytes → ∃ lo hi : Byte,
        e.frame = [0x96, BitVec.ofNat 8 (payload.length + 3), 3, 0, BitVec.ofNat 8 e.body.kindCode] ++ payload ++ [lo, hi]
        ∧ lo.toNat + 256 * hi.toNat =
            (crc16 ([BitVec.ofNat 8 (payload.length + 3), 3, 0, BitVec.ofNat 8 e.body.kindCode] ++ payload)).toNat
        ∧ 1 ≤ e.body.kindCode ∧ e.body.kindCode ≤ 12
        ∧ e.body.fieldBytes.length = [0, 2, 7, 7, 11, 16, 2, 6, 17, 3, 4, 7, 4].getD e.body.kindCode 0)
    ∧ (∀ (cause : ResetCause) (n : Nat), ReportBody.kindCode (.resetNotice cause n) = 1 ∧
        ReportBody.fieldBytes (.resetNotice cause n) =
          [match cause with
            | .powerOn => 0
            | .pin => 1
            | .request => 2, BitVec.ofNat 8 n])
    ∧ (∀ (a : AxisId) (tag : Word16) (p e fe : Word32) (n : Nat) (A B : Byte), A = BitVec.ofNat 8 a.val → B = BitVec.ofNat 8 n →
        (ReportBody.kindCode (.segmentDone a tag p) = 2 ∧ ReportBody.kindCode (.markReached a tag p e) = 4
          ∧ ReportBody.kindCode (.queueLow a n) = 6 ∧ ReportBody.kindCode (.underrun a tag n) = 7
          ∧ ReportBody.kindCode (.indexSeen a p tag) = 11)
        ∧ ReportBody.fieldBytes (.segmentDone a tag p) = [A] ++ leBytes 2 tag.toNat ++ leBytes 4 p.toNat
        ∧ (∀ reason, ReportBody.kindCode (.segmentAborted a tag reason n) = 3 ∧
          ReportBody.fieldBytes (.segmentAborted a tag reason n) =
            [A] ++ leBytes 2 tag.toNat ++ [if reason = .stopped then 0 else 1] ++ leBytes 3 n)
        ∧ ReportBody.fieldBytes (.markReached a tag p e) = [A] ++ leBytes 2 tag.toNat ++ leBytes 4 p.toNat ++ leBytes 4 e.toNat
        ∧ (∀ (found : Bool) (p? e? : Option Word32), ReportBody.kindCode (.seekResult a tag found n p? e?) = 5 ∧
          ReportBody.fieldBytes (.seekResult a tag found n p? e?) =
            [A] ++ leBytes 2 tag.toNat ++ [if found then 0 else 1] ++ leBytes 3 n
              ++ [(if p?.isSome then 1 else 0) ||| (if e?.isSome then 2 else 0)]
              ++ leBytes 4 ((p?.map (·.toNat)).getD 0) ++ leBytes 4 ((e?.map (·.toNat)).getD 0))
        ∧ ReportBody.fieldBytes (.queueLow a n) = [A, B]
        ∧ ReportBody.fieldBytes (.underrun a tag n) = [A] ++ leBytes 2 tag.toNat ++ leBytes 3 n
        ∧ (∀ (cause : Cause) (tag? : Option Word16), ReportBody.kindCode (.faultRaised a cause p e fe tag?) = 8 ∧
          ReportBody.fieldBytes (.faultRaised a cause p e fe tag?) =
            [A, match cause with
              | .limitPos => 1
              | .limitNeg => 2
              | .drive => 3
              | .follow => 4
              | .encoder => 5
              | .trip => 6
              | .silence => 7]
              ++ leBytes 4 p.toNat ++ leBytes 4 e.toNat ++ leBytes 4 fe.toNat ++ [if tag?.isSome then 1 else 0]
              ++ leBytes 2 ((tag?.map (·.toNat)).getD 0))
        ∧ ReportBody.fieldBytes (.indexSeen a p tag) = [A] ++ leBytes 4 p.toNat ++ leBytes 2 tag.toNat)
    ∧ (∀ (g : GroupId) (round : Word16) (arrived : BitVec 4) (lost : Nat) (kinds : Word16),
        (ReportBody.kindCode (.groupReleased g round) = 9 ∧ ReportBody.kindCode (.groupBroken g round arrived) = 10
          ∧ ReportBody.kindCode (.overflow lost kinds) = 12)
        ∧ ReportBody.fieldBytes (.groupReleased g round) = [BitVec.ofNat 8 g.val] ++ leBytes 2 round.toNat
        ∧ ReportBody.fieldBytes (.groupBroken g round arrived) =
            [BitVec.ofNat 8 g.val] ++ leBytes 2 round.toNat ++ [BitVec.ofNat 8 arrived.toNat]
        ∧ ReportBody.fieldBytes (.overflow lost kinds) = leBytes 2 lost ++ leBytes 2 kinds.toNat)
    ∧ (∀ n : Nat, leBytes 2 n = [BitVec.ofNat 8 n, BitVec.ofNat 8 (n / 256)]
        ∧ leBytes 3 n = [BitVec.ofNat 8 n, BitVec.ofNat 8 (n / 256), BitVec.ofNat 8 (n / 65536)]
        ∧ leBytes 4 n = [BitVec.ofNat 8 n, BitVec.ofNat 8 (n / 256), BitVec.ofNat 8 (n / 65536), BitVec.ofNat 8 (n / 16777216)])

/-- R152, R153, R179: the bytes of a request frame, delivered one after another to a hunting receiver with room, put that frame into
the receive buffer and change nothing else. -/
def Obligations.RequestFrameIsReceived : Prop :=
  ∀ (s : State) (f : Frame), s.power = .on → s.link.inBreak = false → s.link.receiver = .hunting → s.link.gapStart = none →
    s.link.rxBuffer.length < 2 → f.payload.length ≤ 247 →
    s.receive (frameBytes 1 f.seq f.code f.payload) =
      { s with link := { s.link with rxBuffer := s.link.rxBuffer ++ [f] } }

/-- R152: what the receiver does with a byte in HUNTING, in LENGTH, and in BODY before the last one, as BYTE_DELIVERED and, for a bad
length, as LENGTH_ERROR; a gap of more than 2 ms discards the partial frame and is counted. R154: a break stops the gap timer, keeps the receiver
as it is, and no byte is delivered until it ends. -/
def Obligations.ReceiverTakesBytesGapsAndBreaks : Prop :=
  (∀ (s : State) (b : Byte), s.power = .on → s.link.inBreak = false →
    (s.link.receiver = .hunting → b ≠ 0x96 → exec (.byteDelivered b) s = .next s)
    ∧ (s.link.receiver = .hunting → b = 0x96 →
      exec (.byteDelivered b) s = .next { s with link := { s.link with receiver := .length, gapStart := some s.clock } })
    ∧ (s.link.receiver = .length → 3 ≤ b.toNat → b.toNat ≤ 250 →
      exec (.byteDelivered b) s = .next { s with link := { s.link with receiver := .body b [], gapStart := some s.clock } })
    ∧ (∀ i ∈ ([.byteDelivered b, .lengthError b] : List Instr), s.link.receiver = .length → b.toNat < 3 ∨ 250 < b.toNat →
      exec i s = .next { s with link := { s.link with
        receiver := .hunting
        gapStart := none
        counters := { s.link.counters with
          lengthErrors := if s.link.counters.lengthErrors < 65535 then s.link.counters.lengthErrors + 1
            else s.link.counters.lengthErrors } } })
    ∧ (∀ len kept, s.link.receiver = .body len kept → kept.length + 1 < len.toNat + 2 →
      exec (.byteDelivered b) s =
        .next { s with link := { s.link with receiver := .body len (kept ++ [b]), gapStart := some s.clock } }))
  ∧ (∀ (s : State) (g : Nat), s.link.gapStart = some g → g + 8001 ≤ s.clock →
    exec .frameTimeout s = .next { s with link := { s.link with
      receiver := .hunting
      gapStart := none
      counters := { s.link.counters with
        frameTimeouts := if s.link.counters.frameTimeouts < 65535 then s.link.counters.frameTimeouts + 1
          else s.link.counters.frameTimeouts } } })
  ∧ (∀ s : State, s.power = .on →
    exec .breakRecognised s = .next { s with link := { s.link with inBreak := true, gapStart := none } })
  ∧ (∀ (s : State) (b : Byte), s.power = .on → s.link.inBreak = true →
    exec (.byteDelivered b) s = .next s ∧ exec (.frameReceived b) s = .next s)

/-- R153: the byte that completes a frame: check value, frame kind, room, in this order, as FRAME_RECEIVED and as BYTE_DELIVERED. -/
def Obligations.CompleteFrameIsChecked : Prop :=
  ∀ (s : State) (len kind seq code lo hi : Byte) (kept payload : List Byte) (i : Instr), s.power = .on →
    s.link.inBreak = false → payload.length + 3 = len.toNat → s.link.receiver = .body len kept →
    kept ++ [hi] = kind :: seq :: code :: payload ++ [lo, hi] →
    i ∈ ([.frameReceived hi, .byteDelivered hi] : List Instr) → ∀ l : Link,
    l = { s.link with receiver := .hunting, gapStart := none } →
    (lo.toNat + 256 * hi.toNat ≠ (crc16 (len :: kind :: seq :: code :: payload)).toNat →
      exec i s = .next { s with link := { l with counters := { l.counters with
        crcErrors := if l.counters.crcErrors < 65535 then l.counters.crcErrors + 1 else l.counters.crcErrors } } })
    ∧ (lo.toNat + 256 * hi.toNat = (crc16 (len :: kind :: seq :: code :: payload)).toNat →
      (kind ≠ 1 → exec i s = .next { s with link := l })
      ∧ (kind = 1 → l.rxBuffer.length < 2 →
        exec i s = .next { s with link := { l with rxBuffer := l.rxBuffer ++ [⟨seq, code, payload⟩] } })
      ∧ (kind = 1 → 2 ≤ l.rxBuffer.length →
        exec i s = .next { s with link := { l with counters := { l.counters with
          overruns := if l.counters.overruns < 65535 then l.counters.overruns + 1 else l.counters.overruns } } }))

/-- R155, R150: the link reset: the receiver hunts, buffer and unbegun reply are discarded, the duplicate record is invalid, the reports go
back, the silence timer restarts, the counter rises; axes, groups and pool stay. R165: with an unbegun Reset Device reply the device reset
follows. That a LINK_RESET is taken without a break before it is the model's choice, log 19. -/
def Obligations.LinkResetClearsTheLinkAlone : Prop :=
  ∀ s : State, s.power = .on →
    ((s.link.resetPending = false ∨ ∀ x, s.link.replySlot = some x → x.begun = true) →
      exec .linkReset s = .next { s with
        link := { s.link with
          receiver := .hunting, gapStart := none, inBreak := false, rxBuffer := []
          dup := { s.link.dup with valid := false }
          replySlot := match s.link.replySlot with
            | none => none
            | some x => if x.begun then some x else none
          silenceTimer :=
            if s.link.silenceTimeout = 0 then s.link.silenceTimer else some (s.micros + s.link.silenceTimeout * 1000)
          counters := { s.link.counters with
            linkResets := if s.link.counters.linkResets < 65535 then s.link.counters.linkResets + 1
              else s.link.counters.linkResets } }
        reports := { s.reports with
          queue := s.reports.queue.map (fun e => { e with inFlight := false }), timer := none } })
    ∧ (∀ x, s.link.resetPending = true → s.link.replySlot = some x → x.begun = false →
      ∃ t, exec .linkReset s = .next t ∧ s.afterReset .request t)

/-- R159, R141, R142: an idle transmitter begins a waiting reply first, then the oldest report not in flight within the window: its marks
are set and a stopped retransmit timer starts; the end of the report's frame leaves the transmitter idle. R151: the straps sampled at
reset give the line rate; a frame begun is due to end when its bytes have left at that rate, ten bits each, rounded up to 250 ns (the
model's choice, log 17). That a commanded end is taken whenever it comes, also before the last byte has left at the nominal line rate, is
the model's choice, log 17. -/
def Obligations.TransmitterServesRepliesFirst : Prop :=
  (∀ rate bytes : Nat, 0 < rate →
    bytes * 10 * 4000000 ≤ lineTime rate bytes * rate ∧ lineTime rate bytes * rate < bytes * 10 * 4000000 + rate)
  ∧ (∀ b1 b0 : Bool, (⟨b1, b0⟩ : Straps).lineRate =
    if b1 then (if b0 then 2000000 else 1000000) else (if b0 then 460800 else 115200))
  ∧ ∀ s : State,
    (∀ r d, s.link.tx = none → s.link.replySlot = some ⟨r, false⟩ → d = s.clock + lineTime s.baud.lineRate r.frame.length →
      exec .replyFrameBegin s = .next { s with link := { s.link with
        replySlot := some ⟨r, true⟩, tx := some ⟨.reply, r.frame, d⟩ } }
      ∧ exec .reportFrameBegin s = .next s)
    ∧ (∀ pre e post, s.link.tx = none → (∀ x, s.link.replySlot = some x → x.begun = true) → s.reports.streaming = true →
      s.reports.queue = pre ++ e :: post → (∀ e' ∈ pre, e'.inFlight = true) → e.inFlight = false →
      s.reports.inFlightCount < s.reports.window → ∀ d, d = s.clock + lineTime s.baud.lineRate e.frame.length →
      exec .reportFrameBegin s = .next { s with
        reports := { s.reports with
          queue := pre ++ { e with inFlight := true, onceSent := true } :: post
          timer := match s.reports.timer with
            | none => some (s.micros + s.reports.timeout * 1000)
            | some t => some t }
        link := { s.link with tx := some ⟨.report, e.frame, d⟩ } })
    ∧ (s.link.tx = none → (s.reports.streaming = false ∨ s.reports.window ≤ s.reports.inFlightCount
        ∨ ∀ e ∈ s.reports.queue, e.inFlight = true) → exec .reportFrameBegin s = .next s)
    ∧ (∀ x, s.link.tx = some x → x.kind = .report →
      exec .reportFrameEnd s = .next { s with link := { s.link with tx := none } })

/-! ## The decoder (R156, R157) -/

/-- R156: a frame with the recorded sequence is answered with the recorded reply, unchanged, and executes nothing. -/
def Obligations.DuplicateIsAnsweredFromTheRecord : Prop :=
  ∀ (s : State) (f : Frame) (rest : List Frame), s.power = .on → s.link.rxBuffer = f :: rest → s.link.replySlot = none →
    s.link.resetPending = false → s.link.dup.valid = true → s.link.dup.seq = f.seq → (∀ a, (s.axis a).silencePending = false) →
    exec .duplicate s = .next { s with
      link := { s.link with
        rxBuffer := rest
        replySlot := some ⟨s.link.dup.reply, false⟩
        silenceTimer :=
          if s.link.silenceTimeout = 0 then s.link.silenceTimer else some (s.micros + s.link.silenceTimeout * 1000)
        counters := { s.link.counters with
          duplicates := if s.link.counters.duplicates < 65535 then s.link.counters.duplicates + 1
            else s.link.counters.duplicates } } }

/-- R157 checks 1 to 3: a code that names no request is answered UNKNOWN_REQUEST, a payload of another length BAD_LENGTH, an axis or group
out of range BAD_INDEX; nothing else happens. -/
def Obligations.RequestsAreCheckedInOrder : Prop :=
  (∀ (s : State) (f : Frame) (rest : List Frame), s.offers f rest →
    f.code ∉ ([0x10, 0x11, 0x12, 0x13, 0x20, 0x21, 0x22, 0x23, 0x24, 0x25, 0x26, 0x30, 0x31, 0x38, 0x39, 0x40, 0x41, 0x42, 0x50,
      0x51, 0x52, 0x53, 0x60, 0x61, 0x62] : List Byte) →
    exec .unknownRequest s = .next (s.answered f rest [1]))
  ∧ (∀ (s : State) (f : Frame) (rest : List Frame), s.offers f rest →
    (∀ c : Instr × Byte × Nat,
      c ∈ ([(.trimQueue, 0x11, 2), (.flushQueue, 0x12, 1), (.configureQueue, 0x13, 3), (.enableAxis, 0x20, 1),
        (.disableAxis, 0x21, 1), (.startAxis, 0x22, 1), (.holdAxis, 0x23, 1), (.resumeAxis, 0x24, 1), (.stopAxis, 0x25, 3),
        (.setPosition, 0x26, 6), (.configureProtection, 0x38, 11), (.clearFault, 0x39, 2), (.configureAxis, 0x60, 17),
        (.readAxisStatus, 0x61, 1)] : List (Instr × Byte × Nat)) →
      f.code = c.2.1 →
        (f.payload.length ≠ c.2.2 → exec c.1 s = .next (s.answered f rest [2]))
        ∧ (f.payload.length = c.2.2 → 4 ≤ (byteAt f.payload 0).toNat → exec c.1 s = .next (s.answered f rest [3])))
    ∧ (∀ c : Instr × Byte × Nat,
      c ∈ ([(.defineGroup, 0x30, 5), (.readGroupStatus, 0x31, 1)] : List (Instr × Byte × Nat)) → f.code = c.2.1 →
        (f.payload.length ≠ c.2.2 → exec c.1 s = .next (s.answered f rest [2]))
        ∧ (f.payload.length = c.2.2 → 8 ≤ (byteAt f.payload 0).toNat → exec c.1 s = .next (s.answered f rest [3])))
    ∧ (∀ c : Instr × Byte × Nat,
      c ∈ ([(.configureReports, 0x40, 4), (.acknowledgeReports, 0x41, 2), (.replayReports, 0x42, 0), (.configureLink, 0x50, 2),
        (.readLinkStatus, 0x51, 1), (.resetDevice, 0x52, 0), (.readDeviceInfo, 0x62, 0)] : List (Instr × Byte × Nat)) →
      f.code = c.2.1 → f.payload.length ≠ c.2.2 → exec c.1 s = .next (s.answered f rest [2]))
    ∧ (f.code = 0x53 → 32 < f.payload.length → exec .noOperation s = .next (s.answered f rest [2])))

/-- R29, R30, R31, R58, R61, R64, R93, R131, R168: a request in a state that refuses it is answered STATE; nothing else happens. -/
def Obligations.WrongStateIsRefused : Prop :=
  ∀ (s : State) (f : Frame) (rest : List Frame) (a : AxisId), s.offers f rest → byteAt f.payload 0 = axisByte a →
    (f.code = 0x20 → f.payload.length = 1 → (s.axis a).st ≠ .off → exec .enableAxis s = .next (s.answered f rest [5]))
    ∧ (f.code = 0x21 → f.payload.length = 1 → (s.axis a).st ≠ .ready → exec .disableAxis s = .next (s.answered f rest [5]))
    ∧ (f.code = 0x22 → f.payload.length = 1 → (s.axis a).st ≠ .ready → exec .startAxis s = .next (s.answered f rest [5]))
    ∧ (f.code = 0x23 → f.payload.length = 1 → (s.axis a).st ≠ .run → (s.axis a).st ≠ .gate →
        exec .holdAxis s = .next (s.answered f rest [5]))
    ∧ (f.code = 0x24 → f.payload.length = 1 → (s.axis a).st ≠ .held → exec .resumeAxis s = .next (s.answered f rest [5]))
    ∧ (f.code = 0x25 → f.payload.length = 3 → byteAt f.payload 1 = 0 ∨ byteAt f.payload 1 = 1 →
        (s.axis a).st ∈ ([.off, .ready, .faultBrake, .fault] : List AxisState) →
        exec .stopAxis s = .next (s.answered f rest [5]))
    ∧ (f.code = 0x26 → f.payload.length = 6 →
        (s.axis a).st ∈ ([.run, .gate, .holding, .held, .stopping, .faultBrake] : List AxisState) →
        exec .setPosition s = .next (s.answered f rest [5]))
    ∧ (f.code = 0x39 → f.payload.length = 2 → (s.axis a).st ≠ .fault → exec .clearFault s = .next (s.answered f rest [5]))
    ∧ (∀ set, f.code = 0x60 → f.payload.length = 17 → readAxisSettings f.payload = some set → (s.axis a).st ≠ .off →
        exec .configureAxis s = .next (s.answered f rest [5]))

/-! ## The Segment Store (01) -/

/-- R11, R12: a load whose records are valid and fit is admitted whole. Nothing starts unless the axis is RUN, starved. -/
def Obligations.LoadSegmentsAdmitsAllRecords : Prop :=
  ∀ (s : State) (f : Frame) (rest : List Frame) (a : AxisId) (n : Nat) (segs : List Segment),
    s.offers f rest → f.code = 0x10 → 1 ≤ n → n ≤ 8 → f.payload.length = 2 + 14 * n → byteAt f.payload 0 = axisByte a →
    byteAt f.payload 1 = BitVec.ofNat 8 n → readRecords (fun g => (s.group g).members) a 0 (recordsOf f.payload n) = .ok segs →
    (s.axis a).depth + n ≤ (s.axis a).quota → n ≤ s.poolFree →
    ¬((s.axis a).st = .run ∧ (s.axis a).ctx = none ∧ (s.axis a).queue = []) →
    ∃ t, exec .loadSegments s = .next t
      ∧ t.axis a = { s.axis a with queue := (s.axis a).queue ++ segs }
      ∧ (∀ b, b ≠ a → t.axis b = s.axis b)
      ∧ t.poolFree = s.poolFree - n
      ∧ (∀ g, t.group g = { s.group g with refCount := (s.group g).refCount + gatedOn g segs })
      ∧ t = { s.answered f rest [0, BitVec.ofNat 8 ((s.axis a).depth + n), BitVec.ofNat 8 (s.poolFree - n)] with
          axes := t.axes, groups := t.groups, poolFree := t.poolFree }

/-- R13, R32, R33: on a RUN, starved axis the first of the new records begins at once (`begins`): MARKs complete, and behind them, or at
once, an ungated DWELL, MOVE or SEEK is active, a gated head that does not complete its barrier waits in GATE, and one that does releases
the group (R103, R104). The depth and the free count of the reply are those after all of this (the model's reading, log 11). `begins` has
the model's readings of logs 12, 13, 28 and 32. -/
def Obligations.LoadOnAStarvedAxisBeginsTheHead : Prop :=
  ∀ (s : State) (f : Frame) (rest : List Frame) (a : AxisId) (n : Nat) (seg : Segment) (segs : List Segment),
    s.offers f rest → f.code = 0x10 → 1 ≤ n → n ≤ 8 → f.payload.length = 2 + 14 * n → byteAt f.payload 0 = axisByte a →
    byteAt f.payload 1 = BitVec.ofNat 8 n →
    readRecords (fun g => (s.group g).members) a 0 (recordsOf f.payload n) = .ok (seg :: segs) →
    n ≤ (s.axis a).quota → n ≤ s.poolFree →
    (s.axis a).st = .run → (s.axis a).ctx = none → (s.axis a).queue = [] → (∀ g, inSet (s.group g).arrived a = false) →
    ∃ u, s.admits a (seg :: segs) u
      ∧ ∀ t, u.begins a none t →
        exec .loadSegments s = .next (t.answered f rest [0, BitVec.ofNat 8 (t.axis a).depth, BitVec.ofNat 8 t.poolFree])

/-- R4, R11: the first check that fails gives the status, and a refused load changes nothing else. R3, R182: the reasons of a record by
its bytes, in the order of their checks, with their codes; a record that passes them all is read with its values in their ranges. R4: the
index is that of the first invalid record. -/
def Obligations.LoadSegmentsIsRefusedInOrder : Prop :=
  (∀ (members : GroupId → BitVec 4) (a : AxisId) (r : List Byte) (kind fourth : Nat) (reason : Option SegReason) (g : GroupId),
    kind = (byteAt r 0).toNat → fourth = field r 4 3 → g.val = (byteAt r 1).toNat / 4 % 8 →
    reason =
      (if kind = 1 then
        if fourth = 0 ∨ fourth = 8388608 then some .badSteps
        else if field r 7 3 < 16 ∨ 250000 < field r 7 3 ∨ field r 10 3 < 16 ∨ 250000 < field r 10 3 then some .badRate
        else none
      else if kind = 2 then if fourth = 0 then some .badDuration else none
      else if kind = 3 then
        if field r 8 3 = 0 ∨ 8388607 < field r 8 3 then some .badMaxSteps
        else if field r 5 3 < 16 ∨ 250000 < field r 5 3 then some .badRate
        else none
      else if kind = 4 then none
      else some .badKind) →
    (∀ e, reason = some e → readRecord members a r = .error e)
    ∧ (reason = none →
      ((byteAt r 1).getLsbD 1 = true → members g = 0 → readRecord members a r = .error .gateUndefined)
      ∧ ((byteAt r 1).getLsbD 1 = true → members g ≠ 0 → inSet (members g) a = false →
        readRecord members a r = .error .gateNotMember)
      ∧ ((byteAt r 1).getLsbD 1 = false ∨ inSet (members g) a = true → ∃ body : SegBody, body.inRange
        ∧ readRecord members a r =
          .ok ⟨BitVec.ofNat 16 (field r 2 2), if (byteAt r 1).getLsbD 1 then some g else none, body⟩)))
  ∧ ([SegReason.badKind, .badSteps, .badDuration, .badMaxSteps, .badRate, .gateUndefined, .gateNotMember].map SegReason.code
      = [1, 2, 3, 4, 5, 6, 7])
  ∧ (∀ (payload : List Byte) (n : Nat), (recordsOf payload n).length = n
      ∧ ∀ i, i < n → (recordsOf payload n)[i]? = some ((payload.drop (2 + 14 * i)).take 14))
  ∧ (∀ (members : GroupId → BitVec 4) (a : AxisId) (rs : List (List Byte)),
    (∀ segs, readRecords members a 0 rs = .ok segs ↔ rs.map (readRecord members a) = segs.map Except.ok)
    ∧ (∀ i reason, readRecords members a 0 rs = .error (i, reason) ↔
      (∃ r, rs[i]? = some r ∧ readRecord members a r = .error reason)
        ∧ ∀ j, j < i → ∃ r seg, rs[j]? = some r ∧ readRecord members a r = .ok seg))
  ∧ ∀ (s : State) (f : Frame) (rest : List Frame), s.offers f rest → f.code = 0x10 →
    (f.payload.length < 2 → exec .loadSegments s = .next (s.answered f rest [2]))
    ∧ (2 ≤ f.payload.length → 4 ≤ (byteAt f.payload 0).toNat → exec .loadSegments s = .next (s.answered f rest [3]))
    ∧ (∀ a, 2 ≤ f.payload.length → byteAt f.payload 0 = axisByte a →
        (f.payload.length ≠ 2 + 14 * (byteAt f.payload 1).toNat → exec .loadSegments s = .next (s.answered f rest [2]))
        ∧ (∀ n, n = (byteAt f.payload 1).toNat → f.payload.length = 2 + 14 * n →
            (n = 0 ∨ 8 < n → exec .loadSegments s = .next (s.answered f rest [4]))
            ∧ (1 ≤ n → n ≤ 8 →
                (∀ i reason, readRecords (fun g => (s.group g).members) a 0 (recordsOf f.payload n) = .error (i, reason) →
                  exec .loadSegments s = .next (s.answered f rest [8, BitVec.ofNat 8 i, reason.code]))
                ∧ (∀ segs, readRecords (fun g => (s.group g).members) a 0 (recordsOf f.payload n) = .ok segs →
                    ((s.axis a).quota < (s.axis a).depth + n →
                      exec .loadSegments s =
                        .next (s.answered f rest [6, BitVec.ofNat 8 ((s.axis a).quota - (s.axis a).depth)]))
                    ∧ ((s.axis a).depth + n ≤ (s.axis a).quota → s.poolFree < n →
                      exec .loadSegments s = .next (s.answered f rest [7, BitVec.ofNat 8 s.poolFree]))))))

/-- R10, R15: Trim Queue removes from the tail up to the protected segments; slots and references go back; no report. -/
def Obligations.TrimQueueStopsAtTheProtectedSegments : Prop :=
  ∀ (s : State) (f : Frame) (rest : List Frame) (a : AxisId) (n : Byte), s.offers f rest → f.code = 0x11 →
    f.payload = [axisByte a, n] →
    (n = 0 ∨ 128 < n.toNat → exec .trimQueue s = .next (s.answered f rest [4]))
    ∧ (1 ≤ n.toNat → n.toNat ≤ 128 → ∀ kept, kept = max ((s.axis a).depth - n.toNat)
        (min (s.axis a).depth (if (s.axis a).ctx.isSome then 2 else if (s.axis a).st = .gate then 1 else 0)) →
      ∃ t, exec .trimQueue s = .next t
        ∧ t.axis a = { s.axis a with queue := (s.axis a).queue.take kept }
        ∧ (∀ b, b ≠ a → t.axis b = s.axis b)
        ∧ t.poolFree = s.poolFree + ((s.axis a).depth - kept)
        ∧ (∀ g, t.group g = s.groupLess ((s.axis a).queue.drop kept) g)
        ∧ t = { s.answered f rest [0, BitVec.ofNat 8 ((s.axis a).depth - kept), BitVec.ofNat 8 kept] with
            axes := t.axes, groups := t.groups, poolFree := t.poolFree })

/-- R17, R18: Flush Queue keeps the active segment alone; an axis in GATE loses its gated head and withdraws to RUN, starved. -/
def Obligations.FlushQueueKeepsTheActiveSegment : Prop :=
  ∀ (s : State) (f : Frame) (rest : List Frame) (a : AxisId), s.offers f rest → f.code = 0x12 → f.payload = [axisByte a] →
    (∀ kept, (s.axis a).ctx.isSome ∧ kept = 1 ∨ (s.axis a).ctx = none ∧ (s.axis a).st ≠ .gate ∧ kept = 0 →
      ∃ t, exec .flushQueue s = .next t
        ∧ t.axis a = { s.axis a with queue := (s.axis a).queue.take kept }
        ∧ (∀ b, b ≠ a → t.axis b = s.axis b)
        ∧ t.poolFree = s.poolFree + ((s.axis a).depth - kept)
        ∧ (∀ g, t.group g = s.groupLess ((s.axis a).queue.drop kept) g)
        ∧ t = { s.answered f rest [0, BitVec.ofNat 8 ((s.axis a).depth - kept),
              BitVec.ofNat 8 ((s.axis a).queue.take kept).length] with
            axes := t.axes, groups := t.groups, poolFree := t.poolFree })
    ∧ (∀ g, (s.axis a).ctx = none → (s.axis a).st = .gate → (s.axis a).headGate = some g →
      ∃ t, exec .flushQueue s = .next t
        ∧ t.axis a = { s.axis a with queue := [], st := .run, rate := 0 }
        ∧ (∀ b, b ≠ a → t.axis b = s.axis b)
        ∧ t.poolFree = s.poolFree + (s.axis a).depth
        ∧ t.group g = { s.groupLess (s.axis a).queue g with
            arrived := (s.group g).arrived &&& ~~~axisBit a
            timer := if (s.group g).arrived &&& ~~~axisBit a = 0 then none else (s.group g).timer }
        ∧ (∀ h, h ≠ g → t.group h = s.groupLess (s.axis a).queue h)
        ∧ t = { s.answered f rest [0, BitVec.ofNat 8 (s.axis a).depth, 0] with
            axes := t.axes, groups := t.groups, poolFree := t.poolFree })

/-- R20, R130: quota and threshold are set together or not at all; so are the protection settings, in every state. Nothing else changes.
The unassigned bits of a sent flags byte are 0 (the model's choice, log 31). -/
def Obligations.ConfigureQueueAndProtectionSetAllOrNone : Prop :=
  (∀ (s : State) (f : Frame) (rest : List Frame) (a : AxisId) (q th : Byte), s.offers f rest → f.code = 0x13 →
    f.payload = [axisByte a, q, th] →
    (1 ≤ q.toNat → q.toNat ≤ 128 → th.toNat ≤ 127 → (s.axis a).depth ≤ q.toNat →
      exec .configureQueue s = .next ((s.setAxis a { s.axis a with quota := q.toNat, threshold := th.toNat }).answered f rest
        [0, q, th, BitVec.ofNat 8 (s.axis a).depth]))
    ∧ (q.toNat = 0 ∨ 128 < q.toNat ∨ 127 < th.toNat ∨ q.toNat < (s.axis a).depth →
      exec .configureQueue s = .next (s.answered f rest [4])))
  ∧ (∀ (s : State) (f : Frame) (rest : List Frame) (a : AxisId) (L : Nat) (p1 p2 p3 p4 p5 p6 keep flags : Byte), s.offers f rest →
    f.code = 0x38 → f.payload = axisByte a :: leBytes 2 L ++ [p1, p2, p3, p4, p5, p6, keep, flags] → L < 65536 →
    ((∀ p ∈ [p1, p2, p3, p4, p5, p6, keep], p = 0 ∨ p = 1) →
      exec .configureProtection s = .next ((s.setAxis a { s.axis a with
        protection :=
          ⟨L, if p1 = 0 then .halt else .brake, if p2 = 0 then .halt else .brake, if p3 = 0 then .halt else .brake,
            if p4 = 0 then .halt else .brake, if p5 = 0 then .halt else .brake, if p6 = 0 then .halt else .brake,
            flags.getLsbD 0, flags.getLsbD 1, decide (keep = 0)⟩ }).answered f rest
        (0 :: leBytes 2 L ++ [p1, p2, p3, p4, p5, p6, keep, flags &&& 3])))
    ∧ ((∃ p ∈ [p1, p2, p3, p4, p5, p6, keep], p ≠ 0 ∧ p ≠ 1) →
      exec .configureProtection s = .next (s.answered f rest [4])))

/-! ## The Axis Controllers (02, 03) -/

/-- R29, R30: Enable Axis takes OFF to READY unless DFLT is active; Disable Axis takes READY to OFF. R172: the ENA pin stands at its active
level exactly while the enable is active. -/
def Obligations.EnableAndDisableAxis : Prop :=
  (∀ x : Axis, x.enaPin = true ↔ (x.ena = true ↔ x.settings.enaActiveHigh = true))
  ∧ ∀ (s : State) (f : Frame) (rest : List Frame) (a : AxisId), s.offers f rest → f.payload = [axisByte a] →
    (f.code = 0x20 → (s.axis a).st = .off → (s.axis a).inputActive .dflt = false →
      exec .enableAxis s = .next ((s.setAxis a { s.axis a with st := .ready, ena := true }).answered f rest [0]))
    ∧ (f.code = 0x20 → (s.axis a).st = .off → (s.axis a).inputActive .dflt = true →
      exec .enableAxis s = .next (s.answered f rest [10]))
    ∧ (f.code = 0x21 → (s.axis a).st = .ready →
      exec .disableAxis s = .next ((s.setAxis a { s.axis a with st := .off, ena := false, rate := 0 }).answered f rest [0]))

/-- R31, R32, R33, R37, R40, R102, R103: what Start Axis does with each kind of head (`begins`): no head, an ungated DWELL, MOVE, SEEK or
MARK, and a gated head that waits or releases its group, at once or behind MARKs; the first step of a MOVE or SEEK waits for DIR or the
pulse spacing, or is issued, and the only step of one also ends it (R36, R38, R75). A first step withheld at a limit leaves the axis, at
standstill, in FAULT under either policy (R122, R123); one whose evaluation exceeds the follow limit raises FOLLOW (R90). The reply carries
the state reached. `begins` has the model's readings of logs 12, 13, 28 and 32. -/
def Obligations.StartAxisBeginsTheHead : Prop :=
  ∀ (s : State) (f : Frame) (rest : List Frame) (a : AxisId) (x : Axis), x = s.axis a → s.offers f rest → f.code = 0x22 →
    f.payload = [axisByte a] → x.st = .ready → x.ctx = none → (∀ g, inSet (s.group g).arrived a = false) →
    (x.queue = [] → exec .startAxis s = .next ((s.setAxis a { x with st := .run, rate := 0 }).answered f rest [0, 2]))
    ∧ (∀ t, s.begins a none t → exec .startAxis s = .next (t.answered f rest [0, (t.axis a).st.code]))
    ∧ (∀ seg q cause u, x.queue = seg :: q → seg.gate = none → seg.body.makesSteps = true → 0 < seg.body.total →
      x.freeToStep s.clock seg.body.dir → x.atLimit seg.body.dir = true →
      cause = (if seg.body.dir = .positive then Cause.limitPos else Cause.limitNeg) →
      u = (s.setAxis a { x with st := .run, ctx := some seg.freshCtx }).raiseCause a cause →
      exec .startAxis s = .next (u.answered f rest [0, (u.axis a).st.code]) ∧ (x.rate = 0 → (u.axis a).st.code = 8))
    ∧ (∀ seg q y u, x.queue = seg :: q → seg.gate = none → seg.body.makesSteps = true → 0 < seg.body.total →
      x.freeToStep s.clock seg.body.dir → x.atLimit seg.body.dir = false →
      y = { x.stepped s.clock (seg.body.profileRate 1) seg.body.dir
          { seg.freshCtx with stepsDone := 1, lastStep := some s.clock } with st := .run } → y.followExceeded = true →
      u = (s.setAxis a y).raiseCause a .follow → exec .startAxis s = .next (u.answered f rest [0, (u.axis a).st.code]))

/-- R103, R104: the arrival that completes the set releases the group within its event: the set empty, the timer stopped, the round one
higher, Group Released if asked for, and every member's head begun from standstill: DWELLs, MOVEs, SEEKs and MARKs with what stands behind
them, in any mixture, by Start Axis and by Resume Axis (R63). Where heads interact or their first steps take another course (a released
MARK whose next head is gated arrives within the release; a step is withheld, raises FOLLOW or ends its segment), `settles` says what all
of it does, member by member. `settles` has the model's readings of logs 12, 13, 28 and 32. -/
def Obligations.LastArrivalReleasesEveryMember : Prop :=
  ∀ (s : State) (f : Frame) (rest : List Frame) (a : AxisId) (g : GroupId) (y : AxisId → Axis) (reports : AxisId → List ReportBody)
    (gone : AxisId → List Segment), s.offers f rest → f.payload = [axisByte a] → s.axesWf → s.refCountWf →
    (s.axis a).headGate = some g → (s.group g).arrived ||| axisBit a = (s.group g).members →
    ((∀ m, inSet (s.group g).members m = true → (s.axis m).activates s.clock m (y m) (reports m) (gone m)) →
      ∃ t, s.releases g y reports gone t
        ∧ (f.code = 0x22 → (s.axis a).st = .ready → exec .startAxis s = .next (t.answered f rest [0, 2]))
        ∧ (f.code = 0x24 → (s.axis a).st = .held → (s.axis a).ctx = none → exec .resumeAxis s = .next (t.answered f rest [0, 2])))
    ∧ ∀ t, ((s.setAxis a { s.axis a with rate := 0 }).released g).settles
        ((([0, 1, 2, 3] : List AxisId).filter (fun m => inSet (s.group g).members m)).map (.activate · none)) t →
      (f.code = 0x22 → (s.axis a).st = .ready → exec .startAxis s = .next (t.answered f rest [0, (t.axis a).st.code]))
      ∧ (f.code = 0x24 → (s.axis a).st = .held → (s.axis a).ctx = none →
        exec .resumeAxis s = .next (t.answered f rest [0, (t.axis a).st.code]))

/-- R58, R52, R55, R59, R77, R106: what Hold Axis does in GATE and in each situation of RUN. -/
def Obligations.HoldAxisPausesTheAxis : Prop :=
  ∀ (s : State) (f : Frame) (rest : List Frame) (a : AxisId) (x : Axis), x = s.axis a → s.offers f rest → f.code = 0x23 →
    f.payload = [axisByte a] →
    (∀ g, x.st = .gate → x.ctx = none → x.headGate = some g →
      exec .holdAxis s = .next (((s.setAxis a { x with st := .held, rate := 0 }).setGroup g { s.group g with
        arrived := (s.group g).arrived &&& ~~~axisBit a
        timer := if (s.group g).arrived &&& ~~~axisBit a = 0 then none else (s.group g).timer }).answered f rest [0, 5]))
    ∧ (x.st = .run → x.ctx = none →
      exec .holdAxis s = .next ((s.setAxis a { x with st := .held, rate := 0 }).answered f rest [0, 5]))
    ∧ (∀ c d r, x.st = .run → x.ctx = some c → c.seg.body = .dwell d r →
      exec .holdAxis s = .next ((s.setAxis a { x with
        st := .held, rate := 0, ctx := some { c with phase := .paused } }).answered f rest [0, 5]))
    ∧ (∀ c N, x.st = .run → x.ctx = some c → c.seg.body.makesSteps = true → c.phase ≠ .settle →
      c.stepsDone < c.seg.body.total → N = brakeCount x.rate x.settings.baseRate x.settings.decrement →
      (0 < N → exec .holdAxis s = .next ((s.setAxis a { x with
        st := .holding, ctx := some { c with phase := .brake, brake := some ⟨x.rate, 0, N⟩, delayed := none } }).answered f rest
          [0, 4]))
      ∧ (N = 0 → exec .holdAxis s = .next ((s.setAxis a { x with
        st := .held
        rate := 0
        ctx := some { c with
          phase := .paused, brake := none, delayed := none, edgePending := false
          watch := if c.watch = some .opened then some .closed else c.watch } }).answered f rest [0, 5])))
    ∧ (∀ c b, x.st = .run → x.ctx = some c → c.seg.body.makesSteps = true → c.phase = .settle → c.brake = some b →
      b.issued < b.count → c.stepsDone < c.seg.body.total →
      exec .holdAxis s = .next ((s.setAxis a { x with st := .holding }).answered f rest [0, 4]))

/-- R61, R62, R63, R71: Resume Axis goes on with a held MOVE or SEEK on the resume ramp, its first step at once, issued as shown, or in any
other course (`settles`: it waits for DIR or the pulse spacing, is withheld at a limit, raises FOLLOW, or ends its segment), or with a held
DWELL from its time left, which completes at once when none is left, and the next head begins; without a held segment it begins the head as
Start Axis does (`begins`): none, an ungated DWELL, MOVE, SEEK or MARK, or a gated one that waits or releases its group. `begins` has the
model's readings of logs 12, 13, 28 and 32. -/
def Obligations.ResumeAxisGoesOn : Prop :=
  ∀ (s : State) (f : Frame) (rest : List Frame) (a : AxisId) (x : Axis), x = s.axis a → s.offers f rest → f.code = 0x24 →
    f.payload = [axisByte a] → x.st = .held →
    (∀ c, x.ctx = some c → c.seg.body.makesSteps = true → c.brake = none → c.delayed = none →
      c.stepsDone + 1 < c.seg.body.total → x.freeToStep s.clock c.seg.body.dir → x.atLimit c.seg.body.dir = false →
      ∀ y : Axis, y = { x.stepped s.clock
          (min (c.seg.body.profileRate (c.stepsDone + 1)) (x.settings.baseRate + 1 * x.settings.decrement)) c.seg.body.dir
          { c with
            phase := .ramp, stepsDone := c.stepsDone + 1, rampSteps := 1, lastStep := some s.clock
            watch := if c.watch = some .closed then some .opened else c.watch } with st := .run } → y.followExceeded = false →
      exec .resumeAxis s = .next ((s.setAxis a y).answered f rest [0, 2]))
    ∧ (∀ c t, x.ctx = some c → c.seg.body.makesSteps = true → c.brake = none → c.delayed = none →
      (s.setAxis a { x with
        st := .run
        ctx := some { c with
          phase := .ramp, rampSteps := 0
          watch := if c.watch = some .closed then some .opened else c.watch } }).settles [.stepNow a] t →
      exec .resumeAxis s = .next (t.answered f rest [0, (t.axis a).st.code]))
    ∧ (∀ c d r, x.ctx = some c → c.seg.body = .dwell d r → 0 < c.dwellLeft →
      exec .resumeAxis s = .next ((s.setAxis a { x with st := .run, ctx := some { c with phase := .timing } }).answered f rest
        [0, 2]))
    ∧ (∀ c d r q z done, x.ctx = some c → c.seg.body = .dwell d r → c.dwellLeft = 0 → x.queue = c.seg :: q →
      (∀ g, inSet (s.group g).arrived a = false) → z = { x with st := .run, rate := 0, ctx := none, queue := q } →
      done = (if r then [.segmentDone a c.seg.tag x.position] else []) ++ x.lowAfterOne a →
      ∃ u, s.changesTo a z done [c.seg] u
      ∧ (q = [] → exec .resumeAxis s = .next (u.answered f rest [0, 2]))
      ∧ ∀ t, u.begins a none t → exec .resumeAxis s = .next (t.answered f rest [0, (t.axis a).st.code]))
    ∧ (x.ctx = none → (∀ g, inSet (s.group g).arrived a = false) →
      (x.queue = [] → exec .resumeAxis s = .next ((s.setAxis a { x with st := .run, rate := 0 }).answered f rest [0, 2]))
      ∧ ∀ t, s.begins a none t → exec .resumeAxis s = .next (t.answered f rest [0, (t.axis a).st.code]))

/-- R64, R65, R66, R106: Stop Axis with BRAKE brakes a stepping axis into STOPPING and keeps its flush owed; with HALT, with a brake of
no steps, and wherever the axis does not step, the axis is READY at once: its active segment aborted with reason STOPPED, in GATE
withdrawn from the arrival set, its flush performed. -/
def Obligations.StopAxisEndsInReady : Prop :=
  ∀ (s : State) (f : Frame) (rest : List Frame) (a : AxisId) (x : Axis) (mode flags : Byte), x = s.axis a → s.offers f rest →
    f.code = 0x25 → f.payload = [axisByte a, mode, flags] →
    (mode ≠ 0 → mode ≠ 1 → exec .stopAxis s = .next (s.answered f rest [4]))
    ∧ (∀ c N, mode = 0 → x.st = .run → x.ctx = some c → c.seg.body.makesSteps = true → c.brake = none →
      c.stepsDone < c.seg.body.total → N = brakeCount x.rate x.settings.baseRate x.settings.decrement → 0 < N →
      exec .stopAxis s = .next ((s.setAxis a { x with
        st := .stopping
        owedFlush := flags.getLsbD 0
        ctx := some { c with
          phase := .brake, brake := some ⟨x.rate, 0, N⟩, delayed := none, edgePending := false
          watch := if c.watch = some .opened then some .closed else c.watch } }).answered f rest [0, 6]))
    ∧ (∀ c b, mode = 0 → x.st = .run ∨ x.st = .holding → x.ctx = some c → c.seg.body.makesSteps = true → c.brake = some b →
      b.issued < b.count → c.stepsDone < c.seg.body.total →
      exec .stopAxis s = .next ((s.setAxis a { x with
        st := .stopping
        owedFlush := flags.getLsbD 0
        ctx := some { c with
          edgePending := false
          watch := if c.watch = some .opened then some .closed else c.watch } }).answered f rest [0, 6]))
    ∧ (mode = 0 → x.st = .stopping → exec .stopAxis s = .next (s.answered f rest [0, 6]))
    ∧ (mode = 0 ∨ mode = 1 → x.st = .run ∨ x.st = .held → x.ctx = none → ∃ t, exec .stopAxis s = .next t
      ∧ t.axis a = { x with
          st := .ready, rate := 0, ena := true, owedFlush := false, queue := if flags.getLsbD 0 then [] else x.queue }
      ∧ (∀ b, b ≠ a → t.axis b = s.axis b)
      ∧ t.poolFree = s.poolFree + (if flags.getLsbD 0 then x.depth else 0)
      ∧ (∀ g, t.group g = s.groupLess (if flags.getLsbD 0 then x.queue else []) g)
      ∧ t = { s.answered f rest [0, 1] with axes := t.axes, groups := t.groups, poolFree := t.poolFree })
    ∧ (∀ g, mode = 0 ∨ mode = 1 → x.st = .gate → x.ctx = none → x.headGate = some g → ∃ t, exec .stopAxis s = .next t
      ∧ t.axis a = { x with
          st := .ready, rate := 0, ena := true, owedFlush := false, queue := if flags.getLsbD 0 then [] else x.queue }
      ∧ (∀ b, b ≠ a → t.axis b = s.axis b)
      ∧ t.poolFree = s.poolFree + (if flags.getLsbD 0 then x.depth else 0)
      ∧ t.group g = { s.groupLess (if flags.getLsbD 0 then x.queue else []) g with
          arrived := (s.group g).arrived &&& ~~~axisBit a
          timer := if (s.group g).arrived &&& ~~~axisBit a = 0 then none else (s.group g).timer }
      ∧ (∀ h, h ≠ g → t.group h = s.groupLess (if flags.getLsbD 0 then x.queue else []) h)
      ∧ t = { s.answered f rest [0, 1] with axes := t.axes, groups := t.groups, poolFree := t.poolFree })
    ∧ (∀ c q, x.ctx = some c → x.queue = c.seg :: q → x.st ≠ .gate →
      (mode = 1 ∧ x.st ∈ ([.run, .holding, .held, .stopping] : List AxisState)
        ∨ mode = 0 ∧ (x.st = .held ∨ x.st = .run ∧ c.seg.body.makesSteps = false
          ∨ x.st = .run ∧ c.seg.body.makesSteps = true ∧ c.brake = none ∧ c.stepsDone < c.seg.body.total
            ∧ brakeCount x.rate x.settings.baseRate x.settings.decrement = 0)) →
      ∃ t, exec .stopAxis s = .next t
        ∧ t.reports = s.reports.createAll s.deviceTime (.segmentAborted a c.seg.tag .stopped c.stepsDone :: x.lowAfterOne a)
        ∧ (∀ b, b ≠ a → t.axis b = s.axis b)
        ∧ ((flags.getLsbD 0 || (decide (x.st = .stopping) && x.owedFlush)) = false →
            t.axis a = { x with st := .ready, rate := 0, ena := true, ctx := none, owedFlush := false, queue := q }
            ∧ t.poolFree = s.poolFree + 1 ∧ ∀ g, t.group g = s.groupLess [c.seg] g)
        ∧ ((flags.getLsbD 0 || (decide (x.st = .stopping) && x.owedFlush)) = true →
            t.axis a = { x with st := .ready, rate := 0, ena := true, ctx := none, owedFlush := false, queue := [] }
            ∧ t.poolFree = s.poolFree + x.depth ∧ ∀ g, t.group g = s.groupLess x.queue g)
        ∧ t = { s.answered f rest [0, 1] with
            axes := t.axes, groups := t.groups, poolFree := t.poolFree, reports := t.reports })

/-- R93, R94: Set Position sets the commanded position, and the encoder position when asked for and enabled. Where FE does not exceed its
limit nothing else happens. An exceeded limit raises FOLLOW: in READY it faults the axis, which does not step, with ENA inactive under HALT
and as enable-after-brake says under BRAKE (R122, R124, R128); in FAULT it joins the record as a later cause (R91, R127), and the positions
of the record stay. The reply has status OK either way. -/
def Obligations.SetPositionSetsTheReference : Prop :=
  ∀ (s : State) (f : Frame) (rest : List Frame) (a : AxisId) (x y : Axis) (P : Word32) (flags : Byte), x = s.axis a →
    s.offers f rest → f.code = 0x26 → f.payload = axisByte a :: leBytes 4 P.toNat ++ [flags] →
    x.st = .off ∨ x.st = .ready ∨ x.st = .fault →
    y = { x with
      position := P
      encoder := { x.encoder with
        position :=
          if flags.getLsbD 0 = true ∧ x.settings.encoderEnable = true then BitVec.ofNat 32 x.settings.countsPerStep * P
          else x.encoder.position } } →
    (y.followExceeded = false →
      exec .setPosition s = .next ((s.setAxis a y).answered f rest
        (0 :: leBytes 4 P.toNat ++ leBytes 4 y.encoder.position.toNat)))
    ∧ (∀ ena, y.followExceeded = true → x.st = .ready → x.ctx = none →
      ena = (if x.protection.followPolicy = .halt then false else x.protection.keepEnable) → ∃ t,
      exec .setPosition s = .next t
      ∧ t.axis a = { y with
          st := .fault, ena := ena, rate := 0, owedFlush := false
          faultRecord := some ⟨.follow, 0, s.deviceTime, P, y.encoder.position, y.fe, none, .ready⟩ }
      ∧ t.reports = s.reports.create s.deviceTime (.faultRaised a .follow P y.encoder.position y.fe none)
      ∧ (∀ b, b ≠ a → t.axis b = s.axis b)
      ∧ t = { s.answered f rest (0 :: leBytes 4 P.toNat ++ leBytes 4 y.encoder.position.toNat) with
          axes := t.axes, reports := t.reports })
    ∧ (∀ r, y.followExceeded = true → x.st = .fault → x.faultRecord = some r →
      exec .setPosition s = .next ((s.setAxis a { y with
        faultRecord := some { r with additional := r.additional ||| 8#8 } }).answered f rest
        (0 :: leBytes 4 P.toNat ++ leBytes 4 y.encoder.position.toNat)))
    ∧ (flags.getLsbD 0 = true → x.settings.encoderEnable = true → y.fe = 0 ∧ y.followExceeded = false)

/-! ## Groups and faults (06, 07) -/

/-- R100, R101: Define Group sets the three values together or refuses; Read Group Status answers every field and changes nothing; axis a
is bit a of a set (R180). The time left of an expiry that is due and not yet taken is 1 (the model's choice, log 4), and the unassigned
bits of the flags bytes are 0 (log 31). -/
def Obligations.GroupRequestsSetAndShowTheEntry : Prop :=
  (∀ (m : BitVec 4) (a : AxisId), inSet m a = m.getLsbD a.val ∧ axisBit a = 1#4 <<< a.val
    ∧ setSize m = (([0, 1, 2, 3] : List AxisId).filter (inSet m)).length)
  ∧ ∀ (s : State) (f : Frame) (rest : List Frame) (g : GroupId), s.offers f rest →
    (∀ (m : BitVec 4) (T : Nat) (flags : Byte), f.code = 0x30 →
      f.payload = [groupByte g, m.setWidth 8] ++ leBytes 2 T ++ [flags] → T < 65536 →
      (setSize m ≠ 1 → T ≤ 60000 → (s.group g).refCount = 0 →
        exec .defineGroup s =
          .next ((s.setGroup g { s.group g with members := m, timeout := T, releaseReport := flags.getLsbD 0 }).answered f rest
            ([0, groupByte g, m.setWidth 8] ++ leBytes 2 T ++ [if flags.getLsbD 0 then (1 : Byte) else 0]
              ++ leBytes 2 (s.group g).round.toNat)))
      ∧ (setSize m = 1 ∨ 60000 < T → exec .defineGroup s = .next (s.answered f rest [4]))
      ∧ (setSize m ≠ 1 → T ≤ 60000 → (s.group g).refCount ≠ 0 → exec .defineGroup s = .next (s.answered f rest [9])))
    ∧ (f.code = 0x31 → f.payload = [groupByte g] →
      exec .readGroupStatus s = .next (s.answered f rest
        ([0, (s.group g).members.setWidth 8, (s.group g).arrived.setWidth 8, BitVec.ofNat 8 (s.group g).refCount]
          ++ leBytes 2 (s.group g).round.toNat ++ leBytes 2 (s.group g).timeout
          ++ [(if (s.group g).releaseReport then (1 : Byte) else 0) ||| (if (s.group g).timer.isSome then 2 else 0)]
          ++ leBytes 2 (match (s.group g).timer with
            | some t => max 1 ((t - s.micros + 999) / 1000)
            | none => 0))))

/-- R131: Clear Fault is refused while DFLT, or TRIP with trip-enable set, is active; otherwise the record goes, the axis is READY with
ENA active, and the flush flag empties the queue. -/
def Obligations.ClearFaultReturnsToReady : Prop :=
  ∀ (s : State) (f : Frame) (rest : List Frame) (a : AxisId) (x : Axis) (r : FaultRecord) (flags : Byte), x = s.axis a →
    s.offers f rest → f.code = 0x39 → f.payload = [axisByte a, flags] → x.st = .fault → x.faultRecord = some r →
    (x.inputActive .dflt = true ∨ s.trip.filtered = false ∧ x.protection.tripEnable = true →
      exec .clearFault s = .next (s.answered f rest [10]))
    ∧ (x.inputActive .dflt = false → s.trip.filtered = true ∨ x.protection.tripEnable = false →
      (flags.getLsbD 0 = false →
        exec .clearFault s = .next ((s.setAxis a { x with st := .ready, ena := true, faultRecord := none }).answered f rest
          [0, 1, BitVec.ofNat 8 r.first.code, r.additional, BitVec.ofNat 8 x.depth]))
      ∧ (flags.getLsbD 0 = true → ∃ t, exec .clearFault s = .next t
        ∧ t.axis a = { x with st := .ready, ena := true, faultRecord := none, queue := [] }
        ∧ (∀ b, b ≠ a → t.axis b = s.axis b)
        ∧ t.poolFree = s.poolFree + x.depth ∧ (∀ g, t.group g = s.groupLess x.queue g)
        ∧ t = { s.answered f rest [0, 1, BitVec.ofNat 8 r.first.code, r.additional, 0] with
            axes := t.axes, groups := t.groups, poolFree := t.poolFree }))

/-- R117, R121, R122, R124: a first cause makes the fault record and Fault Raised. Under HALT, and on an axis that does not step, the axis
is in FAULT at once, its active segment aborted with reason FAULT; ENA is inactive under HALT and follows enable-after-brake under BRAKE.
In OFF the cause is ignored. R120: the policy that governs each cause; R28: when an axis is stepping. -/
def Obligations.FirstCauseFaultsTheAxis : Prop :=
  (∀ p : Protection, p.policy .limitPos = p.limitPolicy ∧ p.policy .limitNeg = p.limitPolicy ∧ p.policy .drive = p.drivePolicy
    ∧ p.policy .follow = p.followPolicy ∧ p.policy .encoder = p.encoderPolicy ∧ p.policy .trip = p.tripPolicy
    ∧ p.policy .silence = p.silencePolicy)
  ∧ (∀ x : Axis, x.stepping = true ↔ x.st ∈ ([.run, .holding, .stopping, .faultBrake] : List AxisState)
    ∧ ∃ c, x.ctx = some c ∧ c.seg.body.makesSteps = true)
  ∧ ∀ (s : State) (a : AxisId) (x : Axis) (cause : Cause), x = s.axis a →
    (x.st = .off → s.raiseCause a cause = s)
    ∧ (x.st ∈ ([.ready, .run, .holding, .held, .stopping] : List AxisState) →
      x.protection.policy cause = .halt ∨ x.stepping = false → ∀ ena,
      ena = (if x.protection.policy cause = .halt then false else x.protection.keepEnable) →
      (x.ctx = none →
        (s.raiseCause a cause).axis a = { x with
          st := .fault, ena := ena, rate := 0, owedFlush := false
          faultRecord := some ⟨cause, 0, s.deviceTime, x.position, x.encoder.position, x.fe, none, x.st⟩ }
        ∧ s.raiseCause a cause = { s with
            axes := (s.raiseCause a cause).axes
            reports := s.reports.create s.deviceTime (.faultRaised a cause x.position x.encoder.position x.fe none) })
      ∧ (∀ c q, x.ctx = some c → x.queue = c.seg :: q →
        (s.raiseCause a cause).axis a = { x with
          st := .fault, ena := ena, rate := 0, owedFlush := false, ctx := none, queue := q
          faultRecord := some ⟨cause, 0, s.deviceTime, x.position, x.encoder.position, x.fe, some c.seg.tag, x.st⟩ }
        ∧ (s.raiseCause a cause).reports = s.reports.createAll s.deviceTime
            ([.faultRaised a cause x.position x.encoder.position x.fe (some c.seg.tag),
              .segmentAborted a c.seg.tag .fault c.stepsDone] ++ x.lowAfterOne a)
        ∧ (s.raiseCause a cause).poolFree = s.poolFree + 1
        ∧ (∀ g, (s.raiseCause a cause).group g = s.groupLess [c.seg] g)))
    ∧ (∀ g, x.st = .gate → x.ctx = none → x.headGate = some g →
      (s.raiseCause a cause).axis a = { x with
        st := .fault
        ena := if x.protection.policy cause = .halt then false else x.protection.keepEnable
        rate := 0
        owedFlush := false
        faultRecord := some ⟨cause, 0, s.deviceTime, x.position, x.encoder.position, x.fe, none, .gate⟩ }
      ∧ s.raiseCause a cause = { s.setGroup g { s.group g with
            arrived := (s.group g).arrived &&& ~~~axisBit a
            timer := if (s.group g).arrived &&& ~~~axisBit a = 0 then none else (s.group g).timer } with
          axes := (s.raiseCause a cause).axes
          reports := s.reports.create s.deviceTime (.faultRaised a cause x.position x.encoder.position x.fe none) })
    ∧ (∀ b, b ≠ a → (s.raiseCause a cause).axis b = s.axis b)
    ∧ s.raiseCause a cause = { s with
        axes := (s.raiseCause a cause).axes, groups := (s.raiseCause a cause).groups
        poolFree := (s.raiseCause a cause).poolFree, reports := (s.raiseCause a cause).reports }

/-- R123: under BRAKE a stepping axis enters FAULT_BRAKE: its brake begins from the current rate, or the one that runs goes on, its watch
closes, an owed flush is given up, and the ENA level of the end is fixed; first for a brake that has steps left. A brake that has no steps
(R55), or a segment whose steps are all done (R125), takes the axis through FAULT_BRAKE to FAULT at once: the segment is aborted, or
completed when its steps are all done, and ENA takes the fixed level. R127: a later cause joins the additional causes and no report is
created; in FAULT_BRAKE one with policy HALT cuts the brake. -/
def Obligations.FaultBrakeBeginsAndLaterCausesJoin : Prop :=
  (∀ (s : State) (a : AxisId) (x : Axis) (c : Ctx) (cause : Cause) (b : Brake) (fresh : Bool), x = s.axis a → x.ctx = some c →
    x.st ∈ ([.run, .holding, .stopping] : List AxisState) → c.seg.body.makesSteps = true →
    x.protection.policy cause = .brake → c.stepsDone < c.seg.body.total →
    (fresh = true ∧ c.brake = none ∧ b = ⟨x.rate, 0, brakeCount x.rate x.settings.baseRate x.settings.decrement⟩
      ∨ fresh = false ∧ c.brake = some b) → b.issued < b.count →
    s.raiseCause a cause = { s.setAxis a { x with
        st := .faultBrake
        owedFlush := false
        enaAfterBrake := x.protection.keepEnable
        faultRecord := some ⟨cause, 0, s.deviceTime, x.position, x.encoder.position, x.fe, some c.seg.tag, x.st⟩
        ctx := some { c with
          phase := if fresh then .brake else c.phase
          brake := some b
          delayed := if fresh then none else c.delayed
          edgePending := false
          watch := if c.watch = some .opened then some .closed else c.watch } } with
      reports := s.reports.create s.deviceTime
        (.faultRaised a cause x.position x.encoder.position x.fe (some c.seg.tag)) })
  ∧ (∀ (s : State) (a : AxisId) (x : Axis) (c : Ctx) (q : List Segment) (cause : Cause), x = s.axis a →
    x.ctx = some c → x.queue = c.seg :: q → x.st ∈ ([.run, .holding, .stopping] : List AxisState) → c.seg.body.makesSteps = true →
    x.protection.policy cause = .brake → ∀ bodies : List ReportBody,
    (c.stepsDone < c.seg.body.total
        ∧ (c.brake = none ∧ brakeCount x.rate x.settings.baseRate x.settings.decrement = 0
          ∨ ∃ b, c.brake = some b ∧ b.count ≤ b.issued)
        ∧ bodies = [.segmentAborted a c.seg.tag .fault c.stepsDone]
      ∨ c.seg.body.total ≤ c.stepsDone
        ∧ bodies = (match c.seg.body with
          | .move _ _ _ r => if r then [.segmentDone a c.seg.tag x.position] else []
          | .seek .. => if c.watch = some .found then [] else [.seekResult a c.seg.tag false c.stepsDone none none]
          | .dwell .. | .mark => [])) →
    (s.raiseCause a cause).axis a = { x with
      st := .fault
      ena := x.protection.keepEnable
      enaAfterBrake := x.protection.keepEnable
      rate := 0
      owedFlush := false
      ctx := none
      queue := q
      faultRecord := some ⟨cause, 0, s.deviceTime, x.position, x.encoder.position, x.fe, some c.seg.tag, x.st⟩ }
    ∧ (s.raiseCause a cause).reports = s.reports.createAll s.deviceTime
        (.faultRaised a cause x.position x.encoder.position x.fe (some c.seg.tag) :: bodies ++ x.lowAfterOne a)
    ∧ (s.raiseCause a cause).poolFree = s.poolFree + 1 ∧ (∀ g, (s.raiseCause a cause).group g = s.groupLess [c.seg] g)
    ∧ (∀ b, b ≠ a → (s.raiseCause a cause).axis b = s.axis b))
  ∧ (∀ (s : State) (a : AxisId) (x : Axis) (r : FaultRecord) (cause : Cause), x = s.axis a → x.faultRecord = some r →
    (x.st = .fault ∨ x.st = .faultBrake ∧ x.protection.policy cause = .brake →
      s.raiseCause a cause =
        s.setAxis a { x with faultRecord := some { r with additional := r.additional ||| (1#8 <<< (cause.code - 1)) } })
    ∧ (∀ c q, x.st = .faultBrake → x.protection.policy cause = .halt → x.ctx = some c → x.queue = c.seg :: q →
      (s.raiseCause a cause).axis a = { x with
        st := .fault, ena := false, rate := 0, owedFlush := false, ctx := none, queue := q
        faultRecord := some { r with additional := r.additional ||| (1#8 <<< (cause.code - 1)) } }
      ∧ (s.raiseCause a cause).reports = s.reports.createAll s.deviceTime
          (.segmentAborted a c.seg.tag .fault c.stepsDone :: x.lowAfterOne a)
      ∧ (s.raiseCause a cause).poolFree = s.poolFree + 1 ∧ (∀ g, (s.raiseCause a cause).group g = s.groupLess [c.seg] g)))

/-! ## Reports (08) -/

/-- R138, R139, R147: the three rows of the placement of a new report; ATTN is driven low while the queue holds an entry, so from every
creation on, and high while it is empty. -/
def Obligations.ReportIsPlacedByTheQueue : Prop :=
  ∀ (r : ReportUnit) (time : Word32) (body : ReportBody),
    ((∀ e ∈ r.queue, e.body.isOverflow = false) → r.queue.length ≤ 30 →
      r.create time body =
        { r with queue := r.queue ++ [⟨r.nextSeq, time, body, false, false⟩], nextSeq := r.nextSeq + 1 })
    ∧ ((∀ e ∈ r.queue, e.body.isOverflow = false) → r.queue.length = 31 →
      r.create time body =
        { r with
          queue := r.queue ++ [⟨r.nextSeq, time, .overflow 1 body.kindBit, false, false⟩], nextSeq := r.nextSeq + 1 })
    ∧ (∀ q e lost kinds, r.queue = q ++ [e] → (∀ e' ∈ q, e'.body.isOverflow = false) → e.body = .overflow lost kinds →
      r.create time body =
        { r with
          queue := q ++ [{ e with
            body := .overflow (if lost < 65535 then lost + 1 else lost) (kinds ||| (1#16 <<< body.kindCode)) }] })
    ∧ (r.create time body).queue ≠ [] ∧ (∀ s : State, s.attnPin = false ↔ s.reports.queue ≠ [])

/-- R146, R143: Configure Reports sets its three values together; a window below the in-flight count performs a go-back.
The unassigned bits of a sent flags byte are 0 (the model's choice, log 31). -/
def Obligations.ConfigureReportsSetsAllOrNone : Prop :=
  ∀ (s : State) (f : Frame) (rest : List Frame) (flags w : Byte) (T : Nat), s.offers f rest → f.code = 0x40 →
    f.payload = [flags, w] ++ leBytes 2 T → T < 65536 →
    (1 ≤ w.toNat → w.toNat ≤ 8 → 5 ≤ T → T ≤ 1275 → T % 5 = 0 →
      (s.reports.inFlightCount ≤ w.toNat →
        exec .configureReports s = .next (State.answered { s with
          reports := { s.reports with streaming := flags.getLsbD 0, window := w.toNat, timeout := T } } f rest
          (([0, if flags.getLsbD 0 then 1 else 0, w] : List Byte) ++ leBytes 2 T
            ++ [BitVec.ofNat 8 s.reports.queue.length, BitVec.ofNat 8 s.reports.inFlightCount])))
      ∧ (w.toNat < s.reports.inFlightCount →
        exec .configureReports s = .next (State.answered { s with
          reports := { s.reports with
            streaming := flags.getLsbD 0, window := w.toNat, timeout := T, timer := none
            queue := s.reports.queue.map fun e => { e with inFlight := false } } } f rest
          (([0, if flags.getLsbD 0 then 1 else 0, w] : List Byte) ++ leBytes 2 T ++ [BitVec.ofNat 8 s.reports.queue.length, 0]))))
    ∧ (w.toNat = 0 ∨ 8 < w.toNat ∨ T < 5 ∨ 1275 < T ∨ T % 5 ≠ 0 → exec .configureReports s = .next (s.answered f rest [4]))

/-- R144, R142: a valid acknowledgment removes every entry through N; one of an entry not queued or never sent is refused.
The unassigned bits of a sent presence byte are 0 (the model's choice, log 31). -/
def Obligations.AcknowledgeRemovesThroughN : Prop :=
  ∀ (s : State) (f : Frame) (rest : List Frame) (n : Word16), s.offers f rest → f.code = 0x41 → f.payload = leBytes 2 n.toNat →
    (∀ (pre : List Entry) (e : Entry) (left : List Entry), s.reports.queue = pre ++ e :: left → e.seq = n →
      e.onceSent = true → (∀ e' ∈ pre, e'.seq ≠ n) →
      ∃ answer, exec .acknowledgeReports s = .next (State.answered { s with
          reports := { s.reports with
            queue := left
            timer :=
              if (∃ e' ∈ left, e'.inFlight = true) then some (s.micros + s.reports.timeout * 1000) else none } } f rest
            ([0, BitVec.ofNat 8 (pre.length + 1), BitVec.ofNat 8 left.length] ++ answer))
        ∧ ((∀ e' ∈ pre ++ [e], e'.body.isOverflow = false) →
          answer = (if left = [] then 0 else 1) :: leBytes 2 ((left.head?.map (fun e' => e'.seq.toNat)).getD 0) ++ [0, 0, 0, 0])
        ∧ (∀ lost kinds, (∀ e' ∈ pre, e'.body.isOverflow = false) → e.body = .overflow lost kinds → left = [] →
          answer = [2, 0, 0] ++ leBytes 2 lost ++ leBytes 2 kinds.toNat))
    ∧ ((∀ e ∈ s.reports.queue, e.seq = n → e.onceSent = false) →
      exec .acknowledgeReports s = .next (s.answered f rest
        ([11, BitVec.ofNat 8 s.reports.queue.length, if s.reports.queue = [] then 0 else 1]
          ++ leBytes 2 ((s.reports.queue.head?.map (fun e => e.seq.toNat)).getD 0))))

/-- R143: a go-back clears every in-flight mark and stops the retransmit timer, keeps the rest, and the oldest entry is offered next.
Replay Reports performs it (R145), and the expiry of the retransmit timer, which raises its counter (R142). -/
def Obligations.GoBackClearsTheInFlightMarks : Prop :=
  (∀ r : ReportUnit,
    r.goBack = { r with queue := r.queue.map fun e => { e with inFlight := false }, timer := none }
    ∧ r.goBack.inFlightCount = 0
    ∧ (r.streaming = true → 1 ≤ r.window → r.goBack.offered = r.goBack.queue.head?))
  ∧ (∀ (s : State) (f : Frame) (rest : List Frame), s.offers f rest → f.code = 0x42 → f.payload = [] →
    exec .replayReports s = .next (State.answered { s with
      reports := { s.reports with
        queue := s.reports.queue.map fun e => { e with inFlight := false }, timer := none } } f rest
      [0, BitVec.ofNat 8 s.reports.queue.length]))
  ∧ (∀ (s : State) (t : Nat), s.reports.timer = some t → t ≤ s.micros →
    exec .retransmitTimerExpiry s = .next { s with
      reports := { s.reports with
        queue := s.reports.queue.map (fun e => { e with inFlight := false }), timer := none }
      link := { s.link with counters := { s.link.counters with
        retransmits := if s.link.counters.retransmits < 65535 then s.link.counters.retransmits + 1
          else s.link.counters.retransmits } } })

/-! ## Link requests and status (09, 10) -/

/-- R162: Configure Link sets the silence timeout; the timer runs a new timeout from now, or stops. -/
def Obligations.ConfigureLinkSetsTheSilenceTimeout : Prop :=
  ∀ (s : State) (f : Frame) (rest : List Frame) (T : Nat), s.offers f rest → f.code = 0x50 → f.payload = leBytes 2 T →
    T < 65536 →
    (T = 0 → ∃ t, exec .configureLink s = .next t
      ∧ t = { s with link := { (s.answered f rest [0, 0, 0]).link with silenceTimeout := 0, silenceTimer := none } })
    ∧ (10 ≤ T → T ≤ 10000 → exec .configureLink s = .next { s with
        link := { (s.answered f rest (0 :: leBytes 2 T)).link with
          silenceTimeout := T, silenceTimer := some (s.micros + T * 1000) } })
    ∧ (1 ≤ T → T < 10 ∨ 10000 < T → exec .configureLink s = .next (s.answered f rest [4]))

/-- R163: Read Link Status answers the counters and the silence timer, and clears the counters when asked to. R177, R151: Read Device Info
answers the fixed values and the rate that the sampled straps select. The time left of an expiry that is due and not yet taken would be 1
(log 4), and the unassigned bits of the flags byte are 0 (log 31): the model's choices. -/
def Obligations.ReadRequestsAnswerTheirFields : Prop :=
  (∀ (s : State) (f : Frame) (rest : List Frame) (clear : Byte) (timer : Option Nat), s.offers f rest →
    f.code = 0x51 → f.payload = [clear] →
    timer = (if s.link.silenceTimeout = 0 then s.link.silenceTimer else some (s.micros + s.link.silenceTimeout * 1000)) →
    (clear = 0 ∨ clear = 1 → exec .readLinkStatus s = .next (State.answered { s with
      link := { s.link with
        counters := if clear = 1 then ⟨0, 0, 0, 0, 0, 0, 0⟩ else s.link.counters } } f rest
      ((0 : Byte) :: leBytes 2 s.link.counters.crcErrors ++ leBytes 2 s.link.counters.lengthErrors
        ++ leBytes 2 s.link.counters.frameTimeouts ++ leBytes 2 s.link.counters.overruns
        ++ leBytes 2 s.link.counters.duplicates ++ leBytes 2 s.link.counters.retransmits
        ++ leBytes 2 s.link.counters.linkResets ++ leBytes 2 s.link.silenceTimeout
        ++ [if timer.isSome then (1 : Byte) else 0]
        ++ leBytes 2 (match timer with
          | some t => max 1 ((t - s.micros + 999) / 1000)
          | none => 0))))
    ∧ (clear ≠ 0 → clear ≠ 1 → exec .readLinkStatus s = .next (s.answered f rest [4])))
  ∧ (∀ (s : State) (f : Frame) (rest : List Frame), s.offers f rest → f.code = 0x62 →
    (f.payload.length ≠ 0 → exec .readDeviceInfo s = .next (s.answered f rest [2]))
    ∧ (f.payload = [] → exec .readDeviceInfo s = .next (s.answered f rest
      (([0, 0x57, 0x4C, 1, 4, 128, 8, 32, (if s.baud.baud0 then 1 else 0) ||| (if s.baud.baud1 then 2 else 0)] : List Byte)
        ++ leBytes 4 (match s.baud.baud1, s.baud.baud0 with
          | false, false => 115200
          | false, true => 460800
          | true, false => 1000000
          | true, true => 2000000)))))

/-- R164: No Operation answers its payload and changes nothing beyond what every taken frame changes. -/
def Obligations.NoOperationEchoesItsPayload : Prop :=
  ∀ (s : State) (f : Frame) (rest : List Frame), s.offers f rest → f.code = 0x53 →
    (f.payload.length ≤ 32 → exec .noOperation s = .next (s.answered f rest (0 :: f.payload)))
    ∧ (32 < f.payload.length → exec .noOperation s = .next (s.answered f rest [2]))

/-- R168, R169: in OFF all fourteen settings take their values: DIR shows the last step direction when the inversion changes, and a DIR
change that waited gives way to it (the model's choice, log 13), also while STEP is high (the model's choice, log 33); an encoder that is
enabled takes the present pair; an input still being timed is timed again under its new filter when that changes, and one whose filter
time has run out stays due (the model's choice at the moment itself, log 16); a setting out of its values, a two-valued one carried as
neither 0 nor 1 among them, refuses the request; nothing else changes. R171: the DIR pin is high for the positive direction without
inversion, and for the negative one with it. -/
def Obligations.ConfigureAxisSetsAllOrNone : Prop :=
  (∀ p : List Byte, p.length = 17 →
    (readAxisSettings p = none ↔
      field p 1 2 < 16 ∨ 50000 < field p 1 2 ∨ field p 3 2 = 0 ∨ byteAt p 5 = 0 ∨ 63 < (byteAt p 5).toNat ∨ byteAt p 6 = 0
        ∨ 63 < (byteAt p 6).toNat ∨ 7 < (byteAt p 12).toNat ∨ 3 < (byteAt p 13).toNat ∨ byteAt p 15 = 0 ∨ 64 < (byteAt p 15).toNat
        ∨ ∃ i ∈ ([7, 8, 9, 10, 11, 14, 16] : List Nat), byteAt p i ≠ 0 ∧ byteAt p i ≠ 1)
    ∧ ∀ set, readAxisSettings p = some set → set.bytes = p.drop 1)
  ∧ (∀ x : Axis, x.dirPin = true ↔ (x.output.dirShown = .positive ↔ x.settings.dirInverted = false))
  ∧ ∀ (s : State) (f : Frame) (rest : List Frame) (a : AxisId) (x : Axis), x = s.axis a → s.offers f rest → f.code = 0x60 →
    f.payload.length = 17 → byteAt f.payload 0 = axisByte a →
    (∀ set, readAxisSettings f.payload = some set → x.st = .off → set.switchFilter = x.settings.switchFilter →
      set.encoderFilter = x.settings.encoderFilter →
      exec .configureAxis s = .next ((s.setAxis a { x with
        settings := set
        output := if set.dirInverted = x.settings.dirInverted then x.output
          else { x.output with dirShown := x.lastDir, dirChangedAt := s.clock, turnTo := none }
        encoder := { x.encoder with
          quad := if set.encoderEnable = false then none
            else if x.settings.encoderEnable = true then x.encoder.quad
            else some (x.inputs.enca.filtered, x.inputs.encb.filtered) } }).answered f rest (0 :: set.bytes)))
    ∧ (∀ set, readAxisSettings f.payload = some set → x.st = .off → ∃ t, exec .configureAxis s = .next t
      ∧ t.axis a = { x with
          settings := set
          output := if set.dirInverted = x.settings.dirInverted then x.output
            else { x.output with dirShown := x.lastDir, dirChangedAt := s.clock, turnTo := none }
          encoder := { x.encoder with
            quad := if set.encoderEnable = false then none
              else if x.settings.encoderEnable = true then x.encoder.quad
              else some (x.inputs.enca.filtered, x.inputs.encb.filtered) }
          inputs := (t.axis a).inputs }
      ∧ (∀ b, b ≠ a → t.axis b = s.axis b)
      ∧ (∀ i, (t.axis a).inputs.line i = { x.inputs.line i with
          due := (x.inputs.line i).due.map fun t =>
            if s.clock < t ∧
              (i ∈ ([.limp, .limn, .home, .dflt] : List AxisInput) ∧ set.switchFilter ≠ x.settings.switchFilter
                ∨ i ∈ ([.enca, .encb, .enci] : List AxisInput) ∧ set.encoderFilter ≠ x.settings.encoderFilter)
            then s.clock + set.filterTime i else t })
      ∧ t = { s.answered f rest (0 :: set.bytes) with axes := t.axes })
    ∧ (readAxisSettings f.payload = none → exec .configureAxis s = .next (s.answered f rest [4]))

/-- R176, R183, R180: the reply to Read Axis Status, field by field at its place, its codes, and zeros for every absent field; nothing else
changes. Bit 7 of the presence byte, which has no meaning, is 0 (the model's choice, log 31). -/
def Obligations.ReadAxisStatusShowsTheAxis : Prop :=
  ([AxisState.off, .ready, .run, .gate, .holding, .held, .stopping, .faultBrake, .fault].map AxisState.code
      = [0, 1, 2, 3, 4, 5, 6, 7, 8]
    ∧ [Phase.stepping, .timing, .brake, .ramp, .settle, .paused].map Phase.code = [0, 1, 2, 3, 4, 5]
    ∧ [Dir.positive, .negative].map Dir.code = [0, 1]
    ∧ [Cause.limitPos, .limitNeg, .drive, .follow, .encoder, .trip, .silence].map Cause.code = [1, 2, 3, 4, 5, 6, 7]
    ∧ (∀ n S E r, (SegBody.move n S E r).kindCode = 1) ∧ (∀ d r, (SegBody.dwell d r).kindCode = 2)
    ∧ (∀ d rate max src e, (SegBody.seek d rate max src e).kindCode = 3) ∧ SegBody.mark.kindCode = 4)
  ∧ (∀ (x : Axis) (g : GroupId), x.headGate = some g ↔ ∃ seg q, x.queue = seg :: q ∧ seg.gate = some g)
  ∧ ∀ (s : State) (f : Frame) (rest : List Frame) (a : AxisId) (x : Axis), x = s.axis a → s.offers f rest → f.code = 0x61 →
    f.payload = [axisByte a] → ∃ p, exec .readAxisStatus s = .next (s.answered f rest p)
      ∧ p.length = 86 ∧ byteAt p 0 = 0 ∧ field p 1 4 = s.deviceTime.toNat ∧ byteAt p 5 = x.st.code
      ∧ field p 6 3 = x.rate % 16777216 ∧ byteAt p 9 = x.lastDir.code ∧ field p 10 4 = x.position.toNat
      ∧ field p 14 4 = x.encoder.position.toNat ∧ field p 18 4 = x.fe.toNat ∧ byteAt p 22 = BitVec.ofNat 8 x.depth
      ∧ byteAt p 23 = BitVec.ofNat 8 x.quota ∧ byteAt p 24 = BitVec.ofNat 8 x.threshold
      ∧ byteAt p 25 = BitVec.ofNat 8 s.poolFree
      ∧ (∀ i, i < 8 → (byteAt p 26).getLsbD i =
          ([x.ctx.isSome, x.ctx.any (fun c => c.seg.body.kindCode == 2), x.ctx.isSome && decide (2 ≤ x.depth), x.headGate.isSome,
            x.owedFlush, x.faultRecord.isSome, x.faultRecord.any (fun r => r.activeTag.isSome), false].getD i false))
      ∧ (x.ctx = none → (p.drop 27).take 10 = List.replicate 10 0)
      ∧ (∀ c, x.ctx = some c → field p 27 2 = c.seg.tag.toNat ∧ byteAt p 29 = c.seg.body.kindCode ∧ byteAt p 30 = c.phase.code
          ∧ field p 31 3 = c.stepsDone % 16777216 ∧ field p 34 3 = c.dwellLeft % 16777216)
      ∧ (∀ c h seg q, x.ctx = some c → x.queue = h :: seg :: q → field p 37 2 = seg.tag.toNat)
      ∧ (x.ctx = none ∨ x.depth < 2 → field p 37 2 = 0)
      ∧ (∀ g, x.headGate = some g → byteAt p 39 = BitVec.ofNat 8 g.val) ∧ (x.headGate = none → byteAt p 39 = 0)
      ∧ (x.faultRecord = none → (p.drop 40).take 21 = List.replicate 21 0)
      ∧ (∀ r, x.faultRecord = some r → byteAt p 40 = BitVec.ofNat 8 r.first.code ∧ byteAt p 41 = r.additional
          ∧ field p 42 4 = r.time.toNat ∧ field p 46 4 = r.position.toNat ∧ field p 50 4 = r.encoder.toNat
          ∧ field p 54 4 = r.fe.toNat ∧ (∀ tag, r.activeTag = some tag → field p 58 2 = tag.toNat)
          ∧ (r.activeTag = none → field p 58 2 = 0)
          ∧ byteAt p 60 = r.stateAt.code)
      ∧ field p 61 4 = x.encoder.indexPosition.toNat ∧ field p 65 2 = x.encoder.indexCount.toNat
      ∧ field p 67 2 = x.encoder.errorCount % 65536
      ∧ (∀ i, i < 8 → (byteAt p 69).getLsbD i =
          ([x.inputActive .limp, x.inputActive .limn, x.inputActive .home, x.inputActive .dflt, x.inputs.enca.filtered,
            x.inputs.encb.filtered, x.inputs.enci.filtered, !s.trip.filtered].getD i false))
      ∧ p.drop 70 = x.settings.bytes

/-! ## Device resets (09 R165, R166) -/

/-- R166, R149: power-on, with RESETN high, gives every block its reset values and Reset Notice with cause POWER_ON; RESETN low holds the
outputs at their reset levels and ATTN inactive, and no byte is received; its release ends the reset with cause PIN. R165: without supply
the device is dead until power-on.
The model's choices: log 20 (power-on in every state and a break over with it; RESETN followed without supply; a release that ends no reset
changes the pin alone), log 7 (what a device held in reset or without supply holds, ATTN among it), log 2 (an idle step without supply
changes nothing), log 1 (a byte that is not received leaves the state), and the command queue kept. -/
def Obligations.SupplyAndResetnResetTheDevice : Prop :=
  (∀ s : State, s.resetnLow = false → ∃ t, exec .powerOn s = .next t ∧ s.afterReset .powerOn t ∧ t.link.inBreak = false)
  ∧ (∀ s : State,
    (s.power ≠ .off → ∃ t, exec .resetnAssert s = .next t ∧ t.power = .held ∧ t.resetnLow = true ∧ t.pending = s.pending
      ∧ (∀ a, (t.axis a).enaPin = false ∧ (t.axis a).stepPin = false ∧ (t.axis a).dirPin = true) ∧ t.attnActive = false ∧ t.attnPin = true
      ∧ t.link.tx = none ∧ t.link.rxBuffer = [] ∧ (∀ b, exec (.byteDelivered b) t = .next t))
    ∧ (s.power = .held → ∃ t, exec .resetnRelease s = .next t ∧ t.resetnLow = false ∧ s.afterReset .pin t)
    ∧ (s.power = .off → exec .resetnAssert s = .next { s with resetnLow := true })
    ∧ (s.power ≠ .held → exec .resetnRelease s = .next { s with resetnLow := false }))
  ∧ (∀ s : State, ∃ t, exec .powerLoss s = .next t ∧ t.power = .off ∧ t.pending = s.pending
    ∧ step { t with pending := [] } = .next { t with pending := [] }
    ∧ (∀ b, exec (.byteDelivered b) t = .next t) ∧ exec .reportFrameBegin t = .next t ∧ t.attnActive = false)

/-- R165: Reset Device is answered, the decoder then stops, and the reset with cause REQUEST comes when the reply has been sent; without
one pending the end of a reply empties the slot. That a commanded end of a reply frame is taken whenever it comes, also before the last
byte has left at the nominal line rate, is the model's choice, log 17; that a break in progress goes on through that reset, log 20. -/
def Obligations.ResetDeviceWaitsForItsReply : Prop :=
  (∀ (s : State) (f : Frame) (rest : List Frame), s.offers f rest → f.code = 0x52 → f.payload = [] →
    exec .resetDevice s = .next { s with link := { (s.answered f rest [0]).link with resetPending := true } })
  ∧ (∀ s : State, s.link.resetPending = true → s.power = .on → ∀ f rest, s.link.rxBuffer = f :: rest →
      exec .noOperation s = .next s ∧ exec .readDeviceInfo s = .next s ∧ exec .unknownRequest s = .next s
        ∧ exec .duplicate s = .next s)
  ∧ (∀ (s : State) (x : TxFrame), s.link.tx = some x → x.kind = .reply →
      (s.link.resetPending = true → ∃ t, exec .replyFrameEnd s = .next t ∧ s.afterReset .request t
        ∧ t.link.inBreak = s.link.inBreak)
      ∧ (s.link.resetPending = false →
        exec .replyFrameEnd s = .next { s with link := { s.link with tx := none, replySlot := none } }))

/-! ## Timers (09, 06) -/

/-- R161: the expiry of the silence timer sends SILENCE on its way to every supervised axis and leaves the timer stopped; each of them
takes the cause in its own event (the mark is the model's choice, log 14, and so is that an expiry merges with a SILENCE still on its way);
a frame taken before that, whatever its code, is taken as if every axis had taken its cause, so its request meets the axes as the fault
left them. R108: the break of a barrier: the arrived axes are HELD with their gated heads, the set is empty, the round rises, and Group
Broken names them. -/
def Obligations.TimersReachTheirAxes : Prop :=
  (∀ (s : State) (t : Nat), s.link.silenceTimer = some t → t ≤ s.micros → ∃ u, exec .silenceTimerExpiry s = .next u
    ∧ (∀ a, u.axis a =
        if (s.axis a).st ∈ ([.run, .gate, .holding, .held, .stopping, .faultBrake] : List AxisState)
        then { s.axis a with silencePending := true } else s.axis a)
    ∧ u = { s with axes := u.axes, link := { s.link with silenceTimer := none } })
  ∧ (∀ (s : State) (a : AxisId), (s.axis a).silencePending = true →
    exec (.silenceCause a) s = .next ((s.setAxis a { s.axis a with silencePending := false }).raiseCause a .silence))
  ∧ (∀ (s t₀ t₁ t₂ t₃ : State) (f : Frame) (rest : List Frame), s.power = .on → s.link.rxBuffer = f :: rest →
    s.link.replySlot = none → s.link.resetPending = false → exec (.silenceCause 0) s = .next t₀ →
    exec (.silenceCause 1) t₀ = .next t₁ → exec (.silenceCause 2) t₁ = .next t₂ → exec (.silenceCause 3) t₂ = .next t₃ →
    exec (s.requestOf f) s = exec (s.requestOf f) t₃ ∧ t₃.link = s.link ∧ ∀ a, (t₃.axis a).silencePending = false)
  ∧ (∀ (s : State) (g : GroupId) (t : Nat) (x : Group), x = s.group g → x.timer = some t → t ≤ s.micros →
    ∃ u, exec (.barrierTimerExpiry g) s = .next u
      ∧ (∀ a, u.axis a = if inSet x.arrived a = true then { s.axis a with st := .held, rate := 0 } else s.axis a)
      ∧ u.group g = { x with arrived := 0, timer := none, round := x.round + 1 }
      ∧ (∀ h, h ≠ g → u.group h = s.group h)
      ∧ u.reports = s.reports.create s.deviceTime (.groupBroken g (x.round + 1) x.arrived)
      ∧ u = { s with axes := u.axes, groups := u.groups, reports := u.reports })

/-! ## Steps and dwells (02, 03, 04, 10) -/

/-- R2, R28: the direction and the number of the steps of a MOVE are the sign and the magnitude of its step count, those of a SEEK its
direction and its max steps. R37, R61, R62, R53: a step falls due one interval, 1,000,000 divided by its rate and truncated, in
microseconds of four clock units (log 3), after the last step; at once from standstill and for the first step after a Resume. STEP_DUE
commanded before that, and a delayed step before its time, wait for it (the model's choice, log 4). R34, R54, R62, R170: a step that falls
due, or whose delay has passed, is issued when its limit is inactive: position, steps done, rate, direction and time change, and a brake or
ramp step is counted; here for a step that ends neither its segment nor its brake and leaves FE within its limit. -/
def Obligations.StepIsIssued : Prop :=
  (∀ (n : Int) (S E : Nat) (r : Bool), (SegBody.move n S E r).dir = (if n < 0 then .negative else .positive)
    ∧ (SegBody.move n S E r).total = n.natAbs ∧ (SegBody.move n S E r).makesSteps = true)
  ∧ (∀ d rate max src e, (SegBody.seek d rate max src e).dir = d ∧ (SegBody.seek d rate max src e).total = max
    ∧ (SegBody.seek d rate max src e).makesSteps = true)
  ∧ (∀ d r, (SegBody.dwell d r).makesSteps = false) ∧ SegBody.mark.makesSteps = false
  ∧ (∀ (c : Ctx) (set : AxisSettings),
    (c.lastStep = none ∨ c.phase = .ramp ∧ c.rampSteps = 0 → c.nextDue set = 0)
    ∧ (∀ t, c.lastStep = some t → c.phase ≠ .ramp ∨ c.rampSteps ≠ 0 → c.nextDue set = t + 4 * (1000000 / c.nextRate set))
    ∧ (c.phase = .stepping ∨ c.phase = .ramp →
      (c.hasNextStep = true ↔ c.seg.body.makesSteps = true ∧ c.stepsDone < c.seg.body.total))
    ∧ (c.phase = .timing ∨ c.phase = .paused → c.hasNextStep = false))
  ∧ (∀ (s : State) (a : AxisId) (x : Axis) (c : Ctx), x = s.axis a → x.ctx = some c →
    x.st ∈ ([.run, .holding, .stopping, .faultBrake] : List AxisState) → c.hasNextStep = true →
    (c.delayed = none → s.clock < c.nextDue x.settings →
      exec (.stepDue a) s = exec (.stepDue a) (s.passTo (c.nextDue x.settings)))
    ∧ (∀ d, c.delayed = some d → s.clock < d → exec (.delayedStepIssue a) s = exec (.delayedStepIssue a) (s.passTo d)))
  ∧ ∀ (s : State) (a : AxisId) (x y : Axis) (c : Ctx) (i : Instr), x = s.axis a → x.ctx = some c →
    x.st ∈ ([.run, .holding, .stopping, .faultBrake] : List AxisState) → c.seg.body.makesSteps = true →
    c.stepsDone + 1 < c.seg.body.total →
    (c.phase = .stepping ∨ c.phase = .ramp ∨
      ((c.phase = .brake ∨ c.phase = .settle) ∧ ∃ b, c.brake = some b ∧ b.issued + 1 < b.count)) →
    (c.phase = .stepping ∨ c.phase = .ramp → x.st = .run ∧ c.brake = none) →
    x.atLimit c.seg.body.dir = false → x.output.high = false → x.stepComes a c s.clock i →
    y = x.stepped s.clock (c.nextRate x.settings) c.seg.body.dir { c with
      stepsDone := c.stepsDone + 1
      lastStep := some s.clock
      delayed := none
      brake := if c.phase = .brake ∨ c.phase = .settle then c.brake.map (fun b => { b with issued := b.issued + 1 }) else c.brake
      rampSteps := if c.phase = .ramp then c.rampSteps + 1 else c.rampSteps } →
    y.followExceeded = false →
    exec i s = .next (s.setAxis a y)

/-- R34, R118: a step at an active limit in RUN, HOLDING or STOPPING, be it delayed, is withheld, and raises its limit cause: under
policy HALT the axis is in FAULT with the position it had; the record and the reports tell it. Under policy BRAKE the next brake step, be
it due at once, is a STEP_DUE of its own (the model's reading, log 9). In FAULT_BRAKE the cause joins the record: under HALT the brake is
cut, under BRAKE the step is issued. R35, R171: a step due against the direction that DIR shows changes DIR at once while STEP is low,
and at the end of the pulse while STEP is high; it waits one DIR lead from then and the pulse spacing, and nothing of the motion changes.
R170: a step in the direction of the last step waits for the pulse spacing alone, and a DIR change that waited for another step's sake is
given up (the model's reading, log 13); one in the direction that DIR alone shows is led from the change made before (the model's
reading, log 12). Where worked example 4.7 has DIR change while STEP is high, the rules are followed (the model's choice, log 32). -/
def Obligations.StepsAreWithheldOrDelayed : Prop :=
  (∀ (s : State) (a : AxisId) (x : Axis) (c : Ctx) (cause : Cause) (i : Instr), x = s.axis a → x.ctx = some c →
    c.seg.body.makesSteps = true → c.hasNextStep = true →
    x.output.high = false → x.stepComes a c s.clock i →
    x.atLimit c.seg.body.dir = true → cause = (if c.seg.body.dir = .positive then Cause.limitPos else Cause.limitNeg) →
    (x.st ∈ ([.run, .holding, .stopping] : List AxisState) →
      exec i s = .next ((s.setAxis a { x with ctx := some { c with delayed := none } }).raiseCause a cause))
    ∧ (∀ q, x.st ∈ ([.run, .holding, .stopping] : List AxisState) → x.queue = c.seg :: q → x.protection.limitPolicy = .halt →
      ∃ t, exec i s = .next t
      ∧ t.axis a = { x with
          st := .fault, ena := false, rate := 0, owedFlush := false, ctx := none, queue := q
          faultRecord := some ⟨cause, 0, s.deviceTime, x.position, x.encoder.position, x.fe, some c.seg.tag, x.st⟩ }
      ∧ t.reports = s.reports.createAll s.deviceTime
          ([.faultRaised a cause x.position x.encoder.position x.fe (some c.seg.tag),
            .segmentAborted a c.seg.tag .fault c.stepsDone] ++ x.lowAfterOne a)
      ∧ (∀ b, b ≠ a → t.axis b = s.axis b) ∧ t.poolFree = s.poolFree + 1 ∧ (∀ g, t.group g = s.groupLess [c.seg] g)
      ∧ t = { s with axes := t.axes, groups := t.groups, poolFree := t.poolFree, reports := t.reports })
    ∧ (∀ r q, x.st = .faultBrake → x.faultRecord = some r → x.queue = c.seg :: q → x.protection.limitPolicy = .halt →
      ∃ t, exec i s = .next t
      ∧ t.axis a = { x with
          st := .fault, ena := false, rate := 0, owedFlush := false, ctx := none, queue := q
          faultRecord := some { r with additional := r.additional ||| (1#8 <<< (cause.code - 1)) } }
      ∧ t.reports = s.reports.createAll s.deviceTime (.segmentAborted a c.seg.tag .fault c.stepsDone :: x.lowAfterOne a)
      ∧ (∀ b, b ≠ a → t.axis b = s.axis b) ∧ t.poolFree = s.poolFree + 1 ∧ (∀ g, t.group g = s.groupLess [c.seg] g)
      ∧ t = { s with axes := t.axes, groups := t.groups, poolFree := t.poolFree, reports := t.reports })
    ∧ (∀ r b y, x.st = .faultBrake → x.faultRecord = some r → c.phase = .brake ∨ c.phase = .settle → c.brake = some b →
      b.issued + 1 < b.count → c.stepsDone + 1 < c.seg.body.total → x.protection.limitPolicy = .brake →
      y = { x.stepped s.clock (c.nextRate x.settings) c.seg.body.dir { c with
          stepsDone := c.stepsDone + 1
          lastStep := some s.clock
          delayed := none
          brake := some { b with issued := b.issued + 1 } } with
        faultRecord := some { r with additional := r.additional ||| (1#8 <<< (cause.code - 1)) } } →
      y.followExceeded = false → exec i s = .next (s.setAxis a y)))
  ∧ (∀ (s : State) (a : AxisId) (x : Axis) (c : Ctx) (lead : Nat), x = s.axis a → x.ctx = some c →
    x.st ∈ ([.run, .holding, .stopping, .faultBrake] : List AxisState) → c.seg.body.makesSteps = true → c.hasNextStep = true →
    c.delayed = none → c.nextDue x.settings ≤ s.clock → x.output.dirShown = c.seg.body.dir →
    (x.output.high = true → s.clock < x.output.pulseEnd) →
    (x.lastDir = c.seg.body.dir ∧ lead = 0
      ∨ x.lastDir ≠ c.seg.body.dir ∧ lead = x.output.dirChangedAt + 4 * x.settings.dirLead) →
    s.clock < max lead x.output.nextPulse →
    exec (.stepDue a) s = .next (s.setAxis a { x with
      output := { x.output with turnTo := none }
      ctx := some { c with delayed := some (max lead x.output.nextPulse) } }))
  ∧ (∀ (s : State) (a : AxisId) (x : Axis) (c : Ctx), x = s.axis a → x.ctx = some c →
    x.st ∈ ([.run, .holding, .stopping, .faultBrake] : List AxisState) → c.seg.body.makesSteps = true → c.hasNextStep = true →
    c.delayed = none → c.nextDue x.settings ≤ s.clock → x.output.dirShown ≠ c.seg.body.dir → x.output.high = false →
    1 ≤ x.settings.dirLead →
    exec (.stepDue a) s = .next (s.setAxis a { x with
      output := { x.output with dirShown := c.seg.body.dir, dirChangedAt := s.clock, turnTo := none }
      ctx := some { c with delayed := some (max (s.clock + 4 * x.settings.dirLead) x.output.nextPulse) } }))
  ∧ (∀ (s : State) (a : AxisId) (x : Axis) (c : Ctx), x = s.axis a → x.ctx = some c →
    x.st ∈ ([.run, .holding, .stopping, .faultBrake] : List AxisState) → c.seg.body.makesSteps = true → c.hasNextStep = true →
    c.delayed = none → c.nextDue x.settings ≤ s.clock → x.output.dirShown ≠ c.seg.body.dir → x.output.high = true →
    s.clock < x.output.pulseEnd →
    exec (.stepDue a) s = .next (s.setAxis a { x with
      output := { x.output with turnTo := some c.seg.body.dir }
      ctx := some { c with delayed := some (max (x.output.pulseEnd + 4 * x.settings.dirLead) x.output.nextPulse) } }))

/-- R38, R39, R41, R42, R44, R46: the last step of a MOVE in RUN, as it falls due or when its delay has passed (R35, R170), completes it:
Segment Done if asked for, Queue Low if crossed, and Underrun if nothing stands behind it and its end rate lies above B. Then the next head
begins (`begins`), with the rate and the time of the last step carried: an ungated MOVE or SEEK keeps both, also behind MARKs; a DWELL, a
gated head and an empty queue bring the axis to standstill. R75, R21: the step that brings an unfound seek in RUN to its max steps ends it
NOT_FOUND: Seek Result, then its departure, and the axis is HELD with the next head not begun. `begins` has the model's readings of logs
12, 13, 28 and 32. -/
def Obligations.LastStepEndsTheSegment : Prop :=
  (∀ (s : State) (a : AxisId) (x y z : Axis) (c : Ctx) (n : Int) (S E : Nat) (r : Bool) (q : List Segment) (i : Instr)
    (done : List ReportBody), x = s.axis a →
    x.ctx = some c → x.st = .run → x.queue = c.seg :: q → c.seg.body = .move n S E r →
    c.phase = .stepping ∨ c.phase = .ramp → c.brake = none → c.stepsDone + 1 = n.natAbs →
    x.atLimit c.seg.body.dir = false → x.output.high = false → x.stepComes a c s.clock i →
    (∀ g, inSet (s.group g).arrived a = false) →
    y = x.stepped s.clock (c.nextRate x.settings) c.seg.body.dir c → y.followExceeded = false →
    z = { y with ctx := none, queue := q } →
    done = (if r then [.segmentDone a c.seg.tag y.position] else []) ++ x.lowAfterOne a
      ++ (if q = [] ∧ x.settings.baseRate < E then [.underrun a c.seg.tag E] else []) →
    ∃ u, s.changesTo a z done [c.seg] u
      ∧ (q = [] → exec i s = .next (u.setAxis a { z with rate := 0 }))
      ∧ ∀ t, u.begins a (some s.clock) t → exec i s = .next t)
  ∧ (∀ (s : State) (a : AxisId) (x y : Axis) (c : Ctx) (d : Dir) (rate max : Nat) (src : TrigSource) (e : TrigEdge)
    (q : List Segment) (i : Instr), x = s.axis a → x.ctx = some c → x.st = .run → x.queue = c.seg :: q →
    c.seg.body = .seek d rate max src e → c.phase = .stepping ∨ c.phase = .ramp → c.watch = some .opened → c.brake = none →
    c.stepsDone + 1 = max → x.atLimit d = false → x.output.high = false → x.stepComes a c s.clock i →
    y = x.stepped s.clock (c.nextRate x.settings) d c → y.followExceeded = false →
    ∃ t, s.changesTo a { y with st := .held, rate := 0, ctx := none, queue := q }
        (.seekResult a c.seg.tag false max none none :: x.lowAfterOne a) [c.seg] t
      ∧ exec i s = .next t)

/-- R55, R56, R59, R65, R66, R74, R76, R125: the last brake step, or the last step of the segment in a brake, as it falls due or when its
delay has passed (R35, R170), ends the brake; in FAULT_BRAKE also at an active limit under policy BRAKE, whose cause joins the record
(R118, R127). HOLDING keeps the segment PAUSED, but a settled seek or an exhausted segment leaves; STOPPING ends in READY with any owed
flush, FAULT_BRAKE in FAULT with the ENA level fixed at its beginning, the segment aborted, or completed when it is exhausted; a settle in
RUN completes the seek and the next head begins. A step that is both the last of the segment and of the brake exhausts it (the model's
reading, log 10). `begins` has the model's readings of logs 12, 13, 28 and 32. -/
def Obligations.LastBrakeStepEndsTheBrake : Prop :=
  ∀ (s : State) (a : AxisId) (x w y : Axis) (c : Ctx) (b : Brake) (q : List Segment) (i : Instr) (last exhausted : Bool)
    (done : List ReportBody), x = s.axis a → x.ctx = some c →
    x.queue = c.seg :: q → c.seg.body.makesSteps = true → c.phase = .brake ∨ c.phase = .settle → c.brake = some b →
    b.issued < b.count → c.stepsDone < c.seg.body.total → x.limitPasses c.seg.body.dir w → x.output.high = false →
    x.stepComes a c s.clock i →
    y = w.stepped s.clock (c.nextRate x.settings) c.seg.body.dir c → y.followExceeded = false →
    exhausted = decide (c.stepsDone + 1 = c.seg.body.total) → last = decide (b.issued + 1 = b.count) →
    done = (match c.seg.body with
      | .move _ _ _ r => if r then [.segmentDone a c.seg.tag y.position] else []
      | .seek .. => if c.watch = some .found then [] else [.seekResult a c.seg.tag false (c.stepsDone + 1) none none]
      | .dwell .. | .mark => []) →
    (x.st = .holding → c.phase = .brake → last = true → exhausted = false → exec i s = .next (s.setAxis a { y with
      st := .held
      rate := 0
      ctx := some { c with
        phase := .paused, stepsDone := c.stepsDone + 1, lastStep := some s.clock, delayed := none, brake := none
        edgePending := false
        watch := if c.watch = some .opened then some .closed else c.watch } }))
    ∧ (∀ (st : AxisState) (ena flush : Bool) (bodies : List ReportBody),
      (x.st = .holding ∧ (exhausted = true ∨ last = true ∧ c.phase = .settle)
          ∧ st = .held ∧ ena = x.ena ∧ flush = false ∧ bodies = done
        ∨ x.st = .stopping ∧ (exhausted = true ∧ bodies = done
            ∨ exhausted = false ∧ last = true ∧ bodies = [.segmentAborted a c.seg.tag .stopped (c.stepsDone + 1)])
          ∧ st = .ready ∧ ena = true ∧ flush = x.owedFlush
        ∨ x.st = .faultBrake ∧ (exhausted = true ∧ bodies = done
            ∨ exhausted = false ∧ last = true ∧ bodies = [.segmentAborted a c.seg.tag .fault (c.stepsDone + 1)])
          ∧ st = .fault ∧ ena = x.enaAfterBrake ∧ flush = false) →
      ∃ t, exec i s = .next t
      ∧ t.axis a = { y with
          st := st, rate := 0, ena := ena, ctx := none, owedFlush := if st = .held then x.owedFlush else false
          queue := if flush then [] else q }
      ∧ t.reports = s.reports.createAll s.deviceTime (bodies ++ x.lowAfterOne a)
      ∧ t.poolFree = s.poolFree + (if flush then x.depth else 1)
      ∧ (∀ g, t.group g = s.groupLess (if flush then x.queue else [c.seg]) g)
      ∧ (∀ b, b ≠ a → t.axis b = s.axis b)
      ∧ t = { s with axes := t.axes, groups := t.groups, poolFree := t.poolFree, reports := t.reports })
    ∧ (x.st = .run → c.phase = .settle → exhausted = true ∨ last = true → (∀ g, inSet (s.group g).arrived a = false) →
      ∃ u, s.changesTo a { y with rate := 0, ctx := none, queue := q } (done ++ x.lowAfterOne a) [c.seg] u
      ∧ (q = [] → exec i s = .next u) ∧ ∀ t, u.begins a none t → exec i s = .next t)

/-- R170, R171, R43, R39: the STEP pin is high during a pulse; a STEP pulse ends at the end of its width, and a DIR change that waited for
it takes place then, whatever has become of its step; a DWELL whose time has run out completes, and the next head begins (`begins`).
`begins` has the model's readings of logs 12, 13, 28 and 32. -/
def Obligations.PulseAndDwellEnd : Prop :=
  (∀ x : Axis, x.stepPin = x.output.high)
  ∧ (∀ (s : State) (a : AxisId) (x : Axis), x = s.axis a → x.output.high = true → x.output.pulseEnd ≤ s.clock →
    (x.output.turnTo = none →
      exec (.stepPulseEnd a) s = .next (s.setAxis a { x with output := { x.output with high := false } }))
    ∧ (∀ d, x.output.turnTo = some d →
      exec (.stepPulseEnd a) s = .next (s.setAxis a { x with
        output := { x.output with high := false, dirShown := d, dirChangedAt := x.output.pulseEnd, turnTo := none } })))
  ∧ (∀ (s : State) (a : AxisId) (x : Axis) (c : Ctx) (d : Nat) (r : Bool) (q : List Segment), x = s.axis a →
    x.st = .run → x.ctx = some c → c.phase = .timing → c.dwellLeft = 0 → x.queue = c.seg :: q → c.seg.body = .dwell d r →
    (∀ g, inSet (s.group g).arrived a = false) →
    ∃ u, s.changesTo a { x with ctx := none, queue := q, rate := 0 }
        ((if r then [.segmentDone a c.seg.tag x.position] else []) ++ x.lowAfterOne a) [c.seg] u
      ∧ (q = [] → exec (.dwellExpiry a) s = .next u) ∧ ∀ t, u.begins a none t → exec (.dwellExpiry a) s = .next t)

/-- R173, R168, R174: a raw change of an axis input or of TRIP starts a filter time, a return before it has run out ends the timing without
a delivery, and one at or after its end leaves the delivery due (the model's choice, log 16); the filter times are those of the settings,
and 4 µs for TRIP; a strap pin changes alone. -/
def Obligations.RawChangesAreFiltered : Prop :=
  (∀ (s : State) (a : AxisId) (i : AxisInput) (level : Bool) (l : InputLine), l = (s.axis a).inputs.line i → s.power = .on →
    (l.raw = level → exec (.rawInputChange (.axis a i) level) s = .next s)
    ∧ (l.raw ≠ level → ∀ due,
        (l.due = none ∧ due = some (s.clock + (s.axis a).settings.filterTime i)
          ∨ ∃ t, l.due = some t ∧ due = if s.clock < t then none else some t) →
        exec (.rawInputChange (.axis a i) level) s = .next (s.setAxis a { s.axis a with
          inputs := (s.axis a).inputs.setLine i { l with raw := level, due := due } })))
  ∧ (∀ (x : AxisSettings), (∀ i ∈ ([.limp, .limn, .home, .dflt] : List AxisInput), x.switchFilter ≤ 7 →
        x.filterTime i = 4 * [0, 1, 2, 4, 8, 16, 32, 64].getD x.switchFilter 0)
      ∧ (∀ i ∈ ([.enca, .encb, .enci] : List AxisInput), x.encoderFilter ≤ 3 →
        250 * x.filterTime i = [0, 250, 500, 1000].getD x.encoderFilter 0))
  ∧ (∀ (s : State) (level : Bool), s.power = .on →
    (s.trip.raw = level → exec (.rawInputChange .trip level) s = .next s)
    ∧ (s.trip.raw ≠ level → ∀ due,
        (s.trip.due = none ∧ due = some (s.clock + 16) ∨ ∃ t, s.trip.due = some t ∧ due = if s.clock < t then none else some t) →
        exec (.rawInputChange .trip level) s = .next { s with trip := { s.trip with raw := level, due := due } }))
  ∧ (∀ (s : State) (level : Bool),
      exec (.rawInputChange .baud1 level) s = .next { s with straps := { s.straps with baud1 := level } }
      ∧ exec (.rawInputChange .baud0 level) s = .next { s with straps := { s.straps with baud0 := level } })

/-- R173, R168, R87: a switch input is active when its filtered level equals its active-level setting, ENCI when it is high. R173, R118,
R70, R119: at the end of its filter time the filtered level of a limit, of HOME when its change is not the trigger edge of an open watch,
and of DFLT becoming inactive changes, and nothing else; a raw level that has returned meanwhile is timed from there (the model's choice,
log 16); while no filter time runs nothing is delivered (the model's choice, log 1). R119, R117: DFLT becoming active raises DRIVE on its
axis; TRIP becoming active sends TRIP on its way to each axis whose trip-enable is set, and each takes it in its own event, while its
trip-enable is still set. That a TRIP on its way is a mark, which stays when TRIP becomes inactive and merges with a new one, is the
model's choice, log 14; where there is no mark, no TRIP is taken (log 1). -/
def Obligations.DeliveredLevelsReachTheirConsumers : Prop :=
  (∀ x : Axis, (x.inputActive .limp = true ↔ x.inputs.limp.filtered = x.settings.limitActiveHigh)
    ∧ (x.inputActive .limn = true ↔ x.inputs.limn.filtered = x.settings.limitActiveHigh)
    ∧ (x.inputActive .home = true ↔ x.inputs.home.filtered = x.settings.homeActiveHigh)
    ∧ (x.inputActive .dflt = true ↔ x.inputs.dflt.filtered = x.settings.dfltActiveHigh)
    ∧ x.inputActive .enci = x.inputs.enci.filtered)
  ∧ (∀ (x : AxisInputs) (i : AxisInput), x.line i = match i with
    | .limp => x.limp
    | .limn => x.limn
    | .home => x.home
    | .dflt => x.dflt
    | .enca => x.enca
    | .encb => x.encb
    | .enci => x.enci)
  ∧ (∀ (l : InputLine) (clock filterTime : Nat), l.deliver clock filterTime =
    ⟨l.raw, !l.filtered, if l.raw = l.filtered then some (clock + filterTime) else none⟩)
  ∧ (∀ (s : State) (a : AxisId) (x : Axis) (i : AxisInput) (c : Instr), x = s.axis a →
    (i = .limp ∧ c = .limitInputChange a .positive ∨ i = .limn ∧ c = .limitInputChange a .negative
      ∨ i = .home ∧ c = .homeInputChange a ∧ ¬x.triggeredBy .home (!x.inputActive .home)
      ∨ i = .dflt ∧ c = .dfltChange a ∧ x.inputActive .dflt = true) →
    (∀ t, (x.inputs.line i).due = some t → t ≤ s.clock →
      exec c s = .next (s.setAxis a { x with
        inputs := x.inputs.setLine i ((x.inputs.line i).deliver s.clock (x.settings.filterTime i)) }))
    ∧ ((x.inputs.line i).due = none → exec c s = .next s))
  ∧ (∀ (s : State) (a : AxisId) (x y : Axis) (t : Nat), x = s.axis a → x.inputActive .dflt = false →
    (x.inputs.line .dflt).due = some t → t ≤ s.clock →
    y = { x with inputs := { x.inputs with dflt := x.inputs.dflt.deliver s.clock (x.settings.filterTime .dflt) } } →
    exec (.dfltChange a) s = .next ((s.setAxis a y).raiseCause a .drive))
  ∧ (∀ (s : State) (t : Nat), s.trip.due = some t → t ≤ s.clock →
    ∃ u, exec .tripChange s = .next u
      ∧ u.trip = s.trip.deliver s.clock 16
      ∧ (∀ a, u.axis a = { s.axis a with
          tripPending := (s.axis a).tripPending || (s.trip.filtered && (s.axis a).protection.tripEnable) })
      ∧ u = { s with trip := u.trip, axes := u.axes })
  ∧ (∀ s : State, s.trip.due = none → exec .tripChange s = .next s)
  ∧ (∀ (s : State) (a : AxisId),
    ((s.axis a).tripPending = true → (s.axis a).protection.tripEnable = true →
      exec (.tripCause a) s = .next ((s.setAxis a { s.axis a with tripPending := false }).raiseCause a .trip))
    ∧ ((s.axis a).tripPending = true → (s.axis a).protection.tripEnable = false →
      exec (.tripCause a) s = .next (s.setAxis a { s.axis a with tripPending := false }))
    ∧ ((s.axis a).tripPending = false → exec (.tripCause a) s = .next s))

/-- R72, R73, R74: the trigger edge of an open watch: the captures, Seek Result FOUND, and the settle: in RUN a brake from the current
rate, in HOLDING the hold brake that runs, its fields kept; in RUN one of no steps completes the seek at the edge, and the next head begins
(`begins`). The edge is a change of HOME or of ENCI at the end of its filter time, or an index edge on its way to the watch (the marks are
the model's, log 15). `begins` has the model's readings of logs 12, 13, 28 and 32. -/
def Obligations.TriggerEdgeIsFound : Prop :=
  ∀ (s : State) (a : AxisId) (x y : Axis) (c k : Ctx) (d : Dir) (rate max N : Nat) (src : TrigSource) (e : TrigEdge)
    (enc : Option Word32) (found : ReportBody), x = s.axis a → x.ctx = some c → c.seg.body = .seek d rate max src e →
    c.watch = some .opened → c.stepsDone < max → N = brakeCount x.rate x.settings.baseRate x.settings.decrement →
    enc = (if x.settings.encoderEnable then some x.encoder.position else none) →
    found = .seekResult a c.seg.tag true c.stepsDone (some x.position) enc →
    (c.edgePending = true ∧ y = x
      ∨ (∃ t, src = .home ∧ c.edgePending = false ∧ (x.inputActive .home = true ↔ e = .toInactive)
        ∧ (x.inputs.line .home).due = some t ∧ t ≤ s.clock ∧ (x.inputs.line .home).raw ≠ (x.inputs.line .home).filtered
        ∧ y = { x with inputs := { x.inputs with home := ⟨x.inputs.home.raw, x.inputs.home.raw, none⟩ } })
      ∨ (∃ t, src = .index ∧ c.edgePending = false ∧ x.encoder.edgePending = false
        ∧ (x.inputs.enci.filtered = true ↔ e = .toInactive) ∧ (x.inputs.line .enci).due = some t ∧ t ≤ s.clock
        ∧ (x.inputs.line .enci).raw ≠ (x.inputs.line .enci).filtered
        ∧ y = { x with
            inputs := { x.inputs with enci := ⟨x.inputs.enci.raw, x.inputs.enci.raw, none⟩ }
            encoder := { x.encoder with edgePending := x.inputs.enci.raw } })) →
    ((x.st = .run ∧ 0 < N ∧ k = { c with
          phase := .settle, brake := some ⟨x.rate, 0, N⟩, delayed := none, watch := some .found
          captured := some (x.position, enc), edgePending := false }
        ∨ x.st = .holding ∧ (∃ b, c.brake = some b ∧ b.issued < b.count) ∧ k = { c with
          phase := .settle, watch := some .found, captured := some (x.position, enc), edgePending := false }) →
      exec (.seekTriggerEdge a) s = .next { s.setAxis a { y with ctx := some k } with
        reports := s.reports.create s.deviceTime found })
    ∧ (∀ q, x.st = .run → N = 0 → x.queue = c.seg :: q → (∀ g, inSet (s.group g).arrived a = false) →
      ∃ u, s.changesTo a { y with rate := 0, ctx := none, queue := q } (found :: x.lowAfterOne a) [c.seg] u
      ∧ (q = [] → exec (.seekTriggerEdge a) s = .next u) ∧ ∀ t, u.begins a none t → exec (.seekTriggerEdge a) s = .next t)

/-- R87: an active index edge updates the index record and, with index reports enabled, creates Index Seen; a change to inactive changes the
filtered level alone. R88: a change that is also the trigger edge of an open watch, in RUN or HOLDING, goes on to the watch. The marks of an
edge on its way to the Encoder Interface or to the watch are the model's choice, log 15. R84, R85, R83: one channel changed counts one by
the table and evaluates FE, both changed count an error and no position; a pair that has not changed, or one of a disabled encoder, counts
nothing. R173: a channel is delivered at the end of its filter time, the earlier one alone, two at one instant as one pair. A raw level that
has returned is timed from its delivery (the model's choice, log 16); while no filter time runs nothing is delivered (log 1). -/
def Obligations.EncoderInputsAreCounted : Prop :=
  (∀ (s : State) (a : AxisId) (x : Axis) (e : Encoder) (inputs : AxisInputs) (reports : ReportUnit), x = s.axis a →
    e = { x.encoder with
      indexPosition := x.encoder.position, indexCount := x.encoder.indexCount + 1, edgePending := false } →
    inputs = { x.inputs with enci := x.inputs.enci.deliver s.clock (x.settings.filterTime .enci) } →
    reports = (if x.settings.indexReports
      then s.reports.create s.deviceTime (.indexSeen a x.encoder.position (x.encoder.indexCount + 1)) else s.reports) →
    (x.encoder.edgePending = true →
      exec (.indexEdge a) s = .next { s.setAxis a { x with encoder := e } with reports := reports })
    ∧ (x.encoder.edgePending = false → x.inputs.enci.due = none → exec (.indexEdge a) s = .next s)
    ∧ (∀ t, x.encoder.edgePending = false → x.inputs.enci.due = some t → t ≤ s.clock →
      (x.inputs.enci.filtered = false → ¬x.triggeredBy .index true →
        exec (.indexEdge a) s = .next { s.setAxis a { x with inputs := inputs, encoder := e } with reports := reports })
      ∧ (∀ k, x.inputs.enci.filtered = false → x.triggeredBy .index true → x.ctx = some k →
        exec (.indexEdge a) s = .next { s.setAxis a { x with
          inputs := inputs, encoder := e, ctx := some { k with edgePending := true } } with reports := reports })
      ∧ (x.inputs.enci.filtered = true → ¬x.triggeredBy .index false →
        exec (.indexEdge a) s = .next (s.setAxis a { x with inputs := inputs }))
      ∧ (∀ k, x.inputs.enci.filtered = true → x.triggeredBy .index false → x.ctx = some k →
        exec (.indexEdge a) s = .next (s.setAxis a { x with
          inputs := inputs, ctx := some { k with edgePending := true } }))))
  ∧ (∀ (s : State) (a : AxisId) (x : Axis) (A B A' B' : Bool), x = s.axis a →
    x.inputs.enca.filtered = A' → x.inputs.encb.filtered = B' →
    (x.encoder.quad = none → s.takePair a = s)
    ∧ (x.encoder.quad = some (A', B') → s.takePair a = s)
    ∧ (∀ n : Word32, x.encoder.quad = some (A, B) → ((A, B), (A', B'), n) ∈
        ([((false, false), (true, false), 1), ((true, false), (true, true), 1), ((true, true), (false, true), 1),
          ((false, true), (false, false), 1), ((false, false), (false, true), -1), ((false, true), (true, true), -1),
          ((true, true), (true, false), -1), ((true, false), (false, false), -1)] : List ((Bool × Bool) × (Bool × Bool) × Word32)) →
      s.takePair a = (s.setAxis a { x with
        encoder := { x.encoder with position := x.encoder.position + n, quad := some (A', B') } }).evaluateFollow a)
    ∧ (∀ y, x.encoder.quad = some (A, B) → A ≠ A' → B ≠ B' →
      y = { x with
        encoder := { x.encoder with
          quad := some (A', B')
          errorCount := if x.encoder.errorCount < 65535 then x.encoder.errorCount + 1 else x.encoder.errorCount } } →
      (x.protection.encoderErrorEnable = false → s.takePair a = s.setAxis a y)
      ∧ (x.protection.encoderErrorEnable = true → s.takePair a = (s.setAxis a y).raiseCause a .encoder)))
  ∧ (∀ (s : State) (a : AxisId) (x : Axis) (A B : InputLine), x = s.axis a →
    A = x.inputs.enca.deliver s.clock (x.settings.filterTime .enca) →
    B = x.inputs.encb.deliver s.clock (x.settings.filterTime .encb) →
    (∀ t, x.inputs.enca.due = some t → t ≤ s.clock → (∀ u, x.inputs.encb.due = some u → t < u) →
      exec (.quadratureTransition a) s = .next ((s.setAxis a { x with inputs := { x.inputs with enca := A } }).takePair a))
    ∧ (∀ u, x.inputs.encb.due = some u → u ≤ s.clock → (∀ t, x.inputs.enca.due = some t → u < t) →
      exec (.quadratureTransition a) s = .next ((s.setAxis a { x with inputs := { x.inputs with encb := B } }).takePair a))
    ∧ (∀ t, x.inputs.enca.due = some t → x.inputs.encb.due = some t → t ≤ s.clock →
      exec (.quadratureTransition a) s =
        .next ((s.setAxis a { x with inputs := { x.inputs with enca := A, encb := B } }).takePair a))
    ∧ (x.inputs.enca.due = none → x.inputs.encb.due = none → exec (.quadratureTransition a) s = .next s))

/-! ## Invariants -/

/-- R5, R6, R99: every step keeps the pool complete, the quotas and thresholds in range, no queue over its quota, and every reference
count the number of queued segments gated on its group. -/
def Obligations.EveryStepKeepsTheSegmentStore : Prop :=
  ∀ s t : State, step s = .next t →
    (s.poolWf → t.poolWf) ∧ (s.quotaWf → t.quotaWf) ∧ (s.refCountWf → t.refCountWf)

/-- R139, R141: every step keeps the report queue: at most 32 entries, consecutive sequences, one Overflow entry at most and that one
newest; and the marks: in flight and once sent at the front, in flight within the window. -/
def Obligations.EveryStepKeepsTheReportQueue : Prop :=
  ∀ s t : State, step s = .next t → (s.reports.queueWf → t.reports.queueWf) ∧ (s.reports.marksWf → t.reports.marksWf)

/-- R8, R26, R52, R102, R121: every step keeps the states of the axes, their active segments, their fault records and the arrival sets
in agreement, where the reference counts are right. -/
def Obligations.EveryStepKeepsTheAxes : Prop :=
  ∀ s t : State, step s = .next t → s.refCountWf → s.axesWf → t.axesWf

/-- R26, R40, R102, R103: every step, with all that it sets going, ends with no head left to begin: a RUN axis without an active segment
is starved, an axis in GATE is in the arrival set of its group, and no arrival set is complete. -/
def Obligations.EveryStepComesToRest : Prop :=
  ∀ s t : State, step s = .next t → s.refCountWf → s.axesWf → s.restWf → t.restWf

/-- R28, R98, R130, R146, R153, R161, R163, R168, R171: every step keeps the steps done of a segment within its steps, a DIR change waiting
only while STEP is high, and the receive buffer, the link counters and every setting in range. -/
def Obligations.EveryStepKeepsValuesInRange : Prop :=
  ∀ s t : State, step s = .next t →
    (s.stepsWf → t.stepsWf) ∧ (s.link.wf → t.link.wf) ∧ (s.settingsWf → t.settingsWf)

/-- The state after reset has the values of the rules and every invariant above. The raw levels of its inputs and straps are the
model's (log 5). -/
def Obligations.ResetStateIsAsTheRulesSay : Prop :=
  State.reset.afterReset .powerOn State.reset ∧ State.reset.pending = [] ∧ State.reset.poolWf ∧ State.reset.quotaWf
    ∧ State.reset.refCountWf ∧ State.reset.reports.queueWf ∧ State.reset.reports.marksWf ∧ State.reset.stepsWf
    ∧ State.reset.axesWf ∧ State.reset.restWf ∧ State.reset.link.wf ∧ State.reset.settingsWf
end

