-- ==== Sys2Proof/Laws/State.lean ====
section
/-!
SUPPORT. Laws/State.lean: the field lemmas of the homes in Machine/Ops.lean: what every update leaves as it is, and what it sets.
-/

namespace Sys2Proof.Machine


/-! ## One axis replaced -/

@[simp] theorem State.pending_setAxis (s : State) (a : AxisId) (x : Axis) : (s.setAxis a x).pending = s.pending := (rfl)
@[simp] theorem State.freeCount_setAxis (s : State) (a : AxisId) (x : Axis) : (s.setAxis a x).freeCount = s.freeCount := (rfl)
@[simp] theorem State.power_setAxis (s : State) (a : AxisId) (x : Axis) : (s.setAxis a x).power = s.power := (rfl)
@[simp] theorem State.resetnLow_setAxis (s : State) (a : AxisId) (x : Axis) : (s.setAxis a x).resetnLow = s.resetnLow := (rfl)
@[simp] theorem State.clock_setAxis (s : State) (a : AxisId) (x : Axis) : (s.setAxis a x).clock = s.clock := (rfl)
@[simp] theorem State.poolFree_setAxis (s : State) (a : AxisId) (x : Axis) : (s.setAxis a x).poolFree = s.poolFree := (rfl)
@[simp] theorem State.reports_setAxis (s : State) (a : AxisId) (x : Axis) : (s.setAxis a x).reports = s.reports := (rfl)
@[simp] theorem State.link_setAxis (s : State) (a : AxisId) (x : Axis) : (s.setAxis a x).link = s.link := (rfl)
@[simp] theorem State.trip_setAxis (s : State) (a : AxisId) (x : Axis) : (s.setAxis a x).trip = s.trip := (rfl)
@[simp] theorem State.straps_setAxis (s : State) (a : AxisId) (x : Axis) : (s.setAxis a x).straps = s.straps := (rfl)
@[simp] theorem State.baud_setAxis (s : State) (a : AxisId) (x : Axis) : (s.setAxis a x).baud = s.baud := (rfl)
@[simp] theorem State.micros_setAxis (s : State) (a : AxisId) (x : Axis) : (s.setAxis a x).micros = s.micros := (rfl)
@[simp] theorem State.deviceTime_setAxis (s : State) (a : AxisId) (x : Axis) : (s.setAxis a x).deviceTime = s.deviceTime := (rfl)
@[simp] theorem State.group_setAxis (s : State) (h : GroupId) (a : AxisId) (x : Axis) : (s.setAxis a x).group h = s.group h := (rfl)
@[simp] theorem State.axis_setAxis_self (s : State) (a : AxisId) (x : Axis) :
    (s.setAxis a x).axis a = x := by simp [State.axis, State.setAxis]
@[simp] theorem State.axis_setAxis_ne (s : State) {a b : AxisId} (x : Axis) (h : b ≠ a) :
    (s.setAxis a x).axis b = s.axis b := by
  simp only [State.axis, State.setAxis]
  exact Vector.getElem_set_ne _ _ (fun e => h (Fin.ext e.symm))
theorem State.axis_setAxis (s : State) (a b : AxisId) (x : Axis) :
    (s.setAxis a x).axis b = if b = a then x else s.axis b := by
  by_cases h : b = a
  · subst h; simp
  · simp [h]
@[simp] theorem State.pending_modAxis (s : State) (a : AxisId) (f : Axis → Axis) : (s.modAxis a f).pending = s.pending := (rfl)
@[simp] theorem State.freeCount_modAxis (s : State) (a : AxisId) (f : Axis → Axis) :
    (s.modAxis a f).freeCount = s.freeCount := (rfl)
@[simp] theorem State.power_modAxis (s : State) (a : AxisId) (f : Axis → Axis) : (s.modAxis a f).power = s.power := (rfl)
@[simp] theorem State.resetnLow_modAxis (s : State) (a : AxisId) (f : Axis → Axis) :
    (s.modAxis a f).resetnLow = s.resetnLow := (rfl)
@[simp] theorem State.clock_modAxis (s : State) (a : AxisId) (f : Axis → Axis) : (s.modAxis a f).clock = s.clock := (rfl)
@[simp] theorem State.poolFree_modAxis (s : State) (a : AxisId) (f : Axis → Axis) : (s.modAxis a f).poolFree = s.poolFree := (rfl)
@[simp] theorem State.reports_modAxis (s : State) (a : AxisId) (f : Axis → Axis) : (s.modAxis a f).reports = s.reports := (rfl)
@[simp] theorem State.link_modAxis (s : State) (a : AxisId) (f : Axis → Axis) : (s.modAxis a f).link = s.link := (rfl)
@[simp] theorem State.trip_modAxis (s : State) (a : AxisId) (f : Axis → Axis) : (s.modAxis a f).trip = s.trip := (rfl)
@[simp] theorem State.straps_modAxis (s : State) (a : AxisId) (f : Axis → Axis) : (s.modAxis a f).straps = s.straps := (rfl)
@[simp] theorem State.baud_modAxis (s : State) (a : AxisId) (f : Axis → Axis) : (s.modAxis a f).baud = s.baud := (rfl)
@[simp] theorem State.micros_modAxis (s : State) (a : AxisId) (f : Axis → Axis) : (s.modAxis a f).micros = s.micros := (rfl)
@[simp] theorem State.deviceTime_modAxis (s : State) (a : AxisId) (f : Axis → Axis) :
    (s.modAxis a f).deviceTime = s.deviceTime := (rfl)
@[simp] theorem State.group_modAxis (s : State) (h : GroupId) (a : AxisId) (f : Axis → Axis) :
    (s.modAxis a f).group h = s.group h := (rfl)
@[simp] theorem State.axis_modAxis_self (s : State) (a : AxisId) (f : Axis → Axis) :
    (s.modAxis a f).axis a = f (s.axis a) := by simp [State.modAxis]
@[simp] theorem State.axis_modAxis_ne (s : State) {a b : AxisId} (f : Axis → Axis) (h : b ≠ a) :
    (s.modAxis a f).axis b = s.axis b := by simp [State.modAxis, h]
theorem State.axis_modAxis (s : State) (a b : AxisId) (f : Axis → Axis) :
    (s.modAxis a f).axis b = if b = a then f (s.axis a) else s.axis b := by simp [State.modAxis, State.axis_setAxis]

/-! ## One group entry replaced -/

@[simp] theorem State.pending_setGroup (s : State) (g : GroupId) (x : Group) : (s.setGroup g x).pending = s.pending := (rfl)
@[simp] theorem State.freeCount_setGroup (s : State) (g : GroupId) (x : Group) : (s.setGroup g x).freeCount = s.freeCount := (rfl)
@[simp] theorem State.power_setGroup (s : State) (g : GroupId) (x : Group) : (s.setGroup g x).power = s.power := (rfl)
@[simp] theorem State.resetnLow_setGroup (s : State) (g : GroupId) (x : Group) : (s.setGroup g x).resetnLow = s.resetnLow := (rfl)
@[simp] theorem State.clock_setGroup (s : State) (g : GroupId) (x : Group) : (s.setGroup g x).clock = s.clock := (rfl)
@[simp] theorem State.poolFree_setGroup (s : State) (g : GroupId) (x : Group) : (s.setGroup g x).poolFree = s.poolFree := (rfl)
@[simp] theorem State.reports_setGroup (s : State) (g : GroupId) (x : Group) : (s.setGroup g x).reports = s.reports := (rfl)
@[simp] theorem State.link_setGroup (s : State) (g : GroupId) (x : Group) : (s.setGroup g x).link = s.link := (rfl)
@[simp] theorem State.trip_setGroup (s : State) (g : GroupId) (x : Group) : (s.setGroup g x).trip = s.trip := (rfl)
@[simp] theorem State.straps_setGroup (s : State) (g : GroupId) (x : Group) : (s.setGroup g x).straps = s.straps := (rfl)
@[simp] theorem State.baud_setGroup (s : State) (g : GroupId) (x : Group) : (s.setGroup g x).baud = s.baud := (rfl)
@[simp] theorem State.micros_setGroup (s : State) (g : GroupId) (x : Group) : (s.setGroup g x).micros = s.micros := (rfl)
@[simp] theorem State.deviceTime_setGroup (s : State) (g : GroupId) (x : Group) :
    (s.setGroup g x).deviceTime = s.deviceTime := (rfl)
@[simp] theorem State.axis_setGroup (s : State) (b : AxisId) (g : GroupId) (x : Group) : (s.setGroup g x).axis b = s.axis b := (rfl)
@[simp] theorem State.group_setGroup_self (s : State) (g : GroupId) (x : Group) :
    (s.setGroup g x).group g = x := by simp [State.group, State.setGroup]
@[simp] theorem State.group_setGroup_ne (s : State) {g h : GroupId} (x : Group) (ne : h ≠ g) :
    (s.setGroup g x).group h = s.group h := by
  simp only [State.group, State.setGroup]
  exact Vector.getElem_set_ne _ _ (fun e => ne (Fin.ext e.symm))
theorem State.group_setGroup (s : State) (g h : GroupId) (x : Group) :
    (s.setGroup g x).group h = if h = g then x else s.group h := by
  by_cases e : h = g
  · subst e; simp
  · simp [e]
@[simp] theorem State.pending_modGroup (s : State) (g : GroupId) (f : Group → Group) : (s.modGroup g f).pending = s.pending := (rfl)
@[simp] theorem State.freeCount_modGroup (s : State) (g : GroupId) (f : Group → Group) :
    (s.modGroup g f).freeCount = s.freeCount := (rfl)
@[simp] theorem State.power_modGroup (s : State) (g : GroupId) (f : Group → Group) : (s.modGroup g f).power = s.power := (rfl)
@[simp] theorem State.resetnLow_modGroup (s : State) (g : GroupId) (f : Group → Group) :
    (s.modGroup g f).resetnLow = s.resetnLow := (rfl)
@[simp] theorem State.clock_modGroup (s : State) (g : GroupId) (f : Group → Group) : (s.modGroup g f).clock = s.clock := (rfl)
@[simp] theorem State.poolFree_modGroup (s : State) (g : GroupId) (f : Group → Group) :
    (s.modGroup g f).poolFree = s.poolFree := (rfl)
@[simp] theorem State.reports_modGroup (s : State) (g : GroupId) (f : Group → Group) : (s.modGroup g f).reports = s.reports := (rfl)
@[simp] theorem State.link_modGroup (s : State) (g : GroupId) (f : Group → Group) : (s.modGroup g f).link = s.link := (rfl)
@[simp] theorem State.trip_modGroup (s : State) (g : GroupId) (f : Group → Group) : (s.modGroup g f).trip = s.trip := (rfl)
@[simp] theorem State.straps_modGroup (s : State) (g : GroupId) (f : Group → Group) : (s.modGroup g f).straps = s.straps := (rfl)
@[simp] theorem State.baud_modGroup (s : State) (g : GroupId) (f : Group → Group) : (s.modGroup g f).baud = s.baud := (rfl)
@[simp] theorem State.micros_modGroup (s : State) (g : GroupId) (f : Group → Group) : (s.modGroup g f).micros = s.micros := (rfl)
@[simp] theorem State.deviceTime_modGroup (s : State) (g : GroupId) (f : Group → Group) :
    (s.modGroup g f).deviceTime = s.deviceTime := (rfl)
@[simp] theorem State.axis_modGroup (s : State) (b : AxisId) (g : GroupId) (f : Group → Group) :
    (s.modGroup g f).axis b = s.axis b := (rfl)
@[simp] theorem State.group_modGroup_self (s : State) (g : GroupId) (f : Group → Group) :
    (s.modGroup g f).group g = f (s.group g) := by simp [State.modGroup]
@[simp] theorem State.group_modGroup_ne (s : State) {g h : GroupId} (f : Group → Group) (ne : h ≠ g) :
    (s.modGroup g f).group h = s.group h := by simp [State.modGroup, ne]
theorem State.group_modGroup (s : State) (g h : GroupId) (f : Group → Group) :
    (s.modGroup g f).group h = if h = g then f (s.group g) else s.group h := by simp [State.modGroup, State.group_setGroup]

/-! ## The Command Link changed -/

@[simp] theorem State.pending_modLink (s : State) (f : Link → Link) : (s.modLink f).pending = s.pending := (rfl)
@[simp] theorem State.freeCount_modLink (s : State) (f : Link → Link) : (s.modLink f).freeCount = s.freeCount := (rfl)
@[simp] theorem State.power_modLink (s : State) (f : Link → Link) : (s.modLink f).power = s.power := (rfl)
@[simp] theorem State.resetnLow_modLink (s : State) (f : Link → Link) : (s.modLink f).resetnLow = s.resetnLow := (rfl)
@[simp] theorem State.clock_modLink (s : State) (f : Link → Link) : (s.modLink f).clock = s.clock := (rfl)
@[simp] theorem State.poolFree_modLink (s : State) (f : Link → Link) : (s.modLink f).poolFree = s.poolFree := (rfl)
@[simp] theorem State.reports_modLink (s : State) (f : Link → Link) : (s.modLink f).reports = s.reports := (rfl)
@[simp] theorem State.trip_modLink (s : State) (f : Link → Link) : (s.modLink f).trip = s.trip := (rfl)
@[simp] theorem State.straps_modLink (s : State) (f : Link → Link) : (s.modLink f).straps = s.straps := (rfl)
@[simp] theorem State.baud_modLink (s : State) (f : Link → Link) : (s.modLink f).baud = s.baud := (rfl)
@[simp] theorem State.micros_modLink (s : State) (f : Link → Link) : (s.modLink f).micros = s.micros := (rfl)
@[simp] theorem State.deviceTime_modLink (s : State) (f : Link → Link) : (s.modLink f).deviceTime = s.deviceTime := (rfl)
@[simp] theorem State.axis_modLink (s : State) (b : AxisId) (f : Link → Link) : (s.modLink f).axis b = s.axis b := (rfl)
@[simp] theorem State.group_modLink (s : State) (h : GroupId) (f : Link → Link) : (s.modLink f).group h = s.group h := (rfl)
@[simp] theorem State.link_modLink (s : State) (f : Link → Link) : (s.modLink f).link = f s.link := (rfl)
@[simp] theorem State.pending_modCounters (s : State) (f : LinkCounters → LinkCounters) :
    (s.modCounters f).pending = s.pending := (rfl)
@[simp] theorem State.freeCount_modCounters (s : State) (f : LinkCounters → LinkCounters) :
    (s.modCounters f).freeCount = s.freeCount := (rfl)
@[simp] theorem State.power_modCounters (s : State) (f : LinkCounters → LinkCounters) : (s.modCounters f).power = s.power := (rfl)
@[simp] theorem State.resetnLow_modCounters (s : State) (f : LinkCounters → LinkCounters) :
    (s.modCounters f).resetnLow = s.resetnLow := (rfl)
@[simp] theorem State.clock_modCounters (s : State) (f : LinkCounters → LinkCounters) : (s.modCounters f).clock = s.clock := (rfl)
@[simp] theorem State.poolFree_modCounters (s : State) (f : LinkCounters → LinkCounters) :
    (s.modCounters f).poolFree = s.poolFree := (rfl)
@[simp] theorem State.reports_modCounters (s : State) (f : LinkCounters → LinkCounters) :
    (s.modCounters f).reports = s.reports := (rfl)
@[simp] theorem State.trip_modCounters (s : State) (f : LinkCounters → LinkCounters) : (s.modCounters f).trip = s.trip := (rfl)
@[simp] theorem State.straps_modCounters (s : State) (f : LinkCounters → LinkCounters) :
    (s.modCounters f).straps = s.straps := (rfl)
@[simp] theorem State.baud_modCounters (s : State) (f : LinkCounters → LinkCounters) : (s.modCounters f).baud = s.baud := (rfl)
@[simp] theorem State.micros_modCounters (s : State) (f : LinkCounters → LinkCounters) :
    (s.modCounters f).micros = s.micros := (rfl)
@[simp] theorem State.deviceTime_modCounters (s : State) (f : LinkCounters → LinkCounters) :
    (s.modCounters f).deviceTime = s.deviceTime := (rfl)
@[simp] theorem State.axis_modCounters (s : State) (b : AxisId) (f : LinkCounters → LinkCounters) :
    (s.modCounters f).axis b = s.axis b := (rfl)
@[simp] theorem State.group_modCounters (s : State) (h : GroupId) (f : LinkCounters → LinkCounters) :
    (s.modCounters f).group h = s.group h := (rfl)
@[simp] theorem State.link_modCounters (s : State) (f : LinkCounters → LinkCounters) :
    (s.modCounters f).link = { s.link with counters := f s.link.counters } := (rfl)

/-! ## A report created -/

@[simp] theorem State.pending_report (s : State) (r : ReportBody) : (s.report r).pending = s.pending := (rfl)
@[simp] theorem State.freeCount_report (s : State) (r : ReportBody) : (s.report r).freeCount = s.freeCount := (rfl)
@[simp] theorem State.power_report (s : State) (r : ReportBody) : (s.report r).power = s.power := (rfl)
@[simp] theorem State.resetnLow_report (s : State) (r : ReportBody) : (s.report r).resetnLow = s.resetnLow := (rfl)
@[simp] theorem State.clock_report (s : State) (r : ReportBody) : (s.report r).clock = s.clock := (rfl)
@[simp] theorem State.poolFree_report (s : State) (r : ReportBody) : (s.report r).poolFree = s.poolFree := (rfl)
@[simp] theorem State.link_report (s : State) (r : ReportBody) : (s.report r).link = s.link := (rfl)
@[simp] theorem State.trip_report (s : State) (r : ReportBody) : (s.report r).trip = s.trip := (rfl)
@[simp] theorem State.straps_report (s : State) (r : ReportBody) : (s.report r).straps = s.straps := (rfl)
@[simp] theorem State.baud_report (s : State) (r : ReportBody) : (s.report r).baud = s.baud := (rfl)
@[simp] theorem State.micros_report (s : State) (r : ReportBody) : (s.report r).micros = s.micros := (rfl)
@[simp] theorem State.deviceTime_report (s : State) (r : ReportBody) : (s.report r).deviceTime = s.deviceTime := (rfl)
@[simp] theorem State.axis_report (s : State) (b : AxisId) (r : ReportBody) : (s.report r).axis b = s.axis b := (rfl)
@[simp] theorem State.group_report (s : State) (h : GroupId) (r : ReportBody) : (s.report r).group h = s.group h := (rfl)
@[simp] theorem State.reports_report (s : State) (r : ReportBody) : (s.report r).reports = s.reports.create s.deviceTime r := (rfl)
@[simp] theorem State.pending_report? (s : State) (r : Option ReportBody) :
    (s.report? r).pending = s.pending := by cases r <;> rfl
@[simp] theorem State.freeCount_report? (s : State) (r : Option ReportBody) :
    (s.report? r).freeCount = s.freeCount := by cases r <;> rfl
@[simp] theorem State.power_report? (s : State) (r : Option ReportBody) : (s.report? r).power = s.power := by cases r <;> rfl
@[simp] theorem State.resetnLow_report? (s : State) (r : Option ReportBody) :
    (s.report? r).resetnLow = s.resetnLow := by cases r <;> rfl
@[simp] theorem State.clock_report? (s : State) (r : Option ReportBody) : (s.report? r).clock = s.clock := by cases r <;> rfl
@[simp] theorem State.poolFree_report? (s : State) (r : Option ReportBody) :
    (s.report? r).poolFree = s.poolFree := by cases r <;> rfl
@[simp] theorem State.link_report? (s : State) (r : Option ReportBody) : (s.report? r).link = s.link := by cases r <;> rfl
@[simp] theorem State.trip_report? (s : State) (r : Option ReportBody) : (s.report? r).trip = s.trip := by cases r <;> rfl
@[simp] theorem State.straps_report? (s : State) (r : Option ReportBody) : (s.report? r).straps = s.straps := by cases r <;> rfl
@[simp] theorem State.baud_report? (s : State) (r : Option ReportBody) : (s.report? r).baud = s.baud := by cases r <;> rfl
@[simp] theorem State.micros_report? (s : State) (r : Option ReportBody) : (s.report? r).micros = s.micros := by cases r <;> rfl
@[simp] theorem State.deviceTime_report? (s : State) (r : Option ReportBody) :
    (s.report? r).deviceTime = s.deviceTime := by cases r <;> rfl
@[simp] theorem State.axis_report? (s : State) (b : AxisId) (r : Option ReportBody) :
    (s.report? r).axis b = s.axis b := by cases r <;> rfl
@[simp] theorem State.group_report? (s : State) (h : GroupId) (r : Option ReportBody) :
    (s.report? r).group h = s.group h := by cases r <;> rfl

/-! ## A field replaced as such -/

@[simp] theorem State.axis_with_pending (s : State) (b : AxisId) (v : List Instr) :
    State.axis { s with pending := v } b = s.axis b := (rfl)
@[simp] theorem State.group_with_pending (s : State) (h : GroupId) (v : List Instr) :
    State.group { s with pending := v } h = s.group h := (rfl)
@[simp] theorem State.micros_with_pending (s : State) (v : List Instr) : State.micros { s with pending := v } = s.micros := (rfl)
@[simp] theorem State.deviceTime_with_pending (s : State) (v : List Instr) :
    State.deviceTime { s with pending := v } = s.deviceTime := (rfl)
@[simp] theorem State.axis_with_freeCount (s : State) (b : AxisId) (v : Nat) :
    State.axis { s with freeCount := v } b = s.axis b := (rfl)
@[simp] theorem State.group_with_freeCount (s : State) (h : GroupId) (v : Nat) :
    State.group { s with freeCount := v } h = s.group h := (rfl)
@[simp] theorem State.micros_with_freeCount (s : State) (v : Nat) : State.micros { s with freeCount := v } = s.micros := (rfl)
@[simp] theorem State.deviceTime_with_freeCount (s : State) (v : Nat) :
    State.deviceTime { s with freeCount := v } = s.deviceTime := (rfl)
@[simp] theorem State.axis_with_poolFree (s : State) (b : AxisId) (v : Nat) :
    State.axis { s with poolFree := v } b = s.axis b := (rfl)
@[simp] theorem State.group_with_poolFree (s : State) (h : GroupId) (v : Nat) :
    State.group { s with poolFree := v } h = s.group h := (rfl)
@[simp] theorem State.micros_with_poolFree (s : State) (v : Nat) : State.micros { s with poolFree := v } = s.micros := (rfl)
@[simp] theorem State.deviceTime_with_poolFree (s : State) (v : Nat) :
    State.deviceTime { s with poolFree := v } = s.deviceTime := (rfl)
@[simp] theorem State.axis_with_reports (s : State) (b : AxisId) (v : ReportUnit) :
    State.axis { s with reports := v } b = s.axis b := (rfl)
@[simp] theorem State.group_with_reports (s : State) (h : GroupId) (v : ReportUnit) :
    State.group { s with reports := v } h = s.group h := (rfl)
@[simp] theorem State.micros_with_reports (s : State) (v : ReportUnit) : State.micros { s with reports := v } = s.micros := (rfl)
@[simp] theorem State.deviceTime_with_reports (s : State) (v : ReportUnit) :
    State.deviceTime { s with reports := v } = s.deviceTime := (rfl)
@[simp] theorem State.axis_with_trip (s : State) (b : AxisId) (v : InputLine) :
    State.axis { s with trip := v } b = s.axis b := (rfl)
@[simp] theorem State.group_with_trip (s : State) (h : GroupId) (v : InputLine) :
    State.group { s with trip := v } h = s.group h := (rfl)
@[simp] theorem State.micros_with_trip (s : State) (v : InputLine) : State.micros { s with trip := v } = s.micros := (rfl)
@[simp] theorem State.deviceTime_with_trip (s : State) (v : InputLine) :
    State.deviceTime { s with trip := v } = s.deviceTime := (rfl)
@[simp] theorem State.axis_with_resetnLow (s : State) (b : AxisId) (v : Bool) :
    State.axis { s with resetnLow := v } b = s.axis b := (rfl)
@[simp] theorem State.group_with_resetnLow (s : State) (h : GroupId) (v : Bool) :
    State.group { s with resetnLow := v } h = s.group h := (rfl)
@[simp] theorem State.micros_with_resetnLow (s : State) (v : Bool) : State.micros { s with resetnLow := v } = s.micros := (rfl)
@[simp] theorem State.deviceTime_with_resetnLow (s : State) (v : Bool) :
    State.deviceTime { s with resetnLow := v } = s.deviceTime := (rfl)
@[simp] theorem State.axis_with_link (s : State) (b : AxisId) (v : Link) : State.axis { s with link := v } b = s.axis b := (rfl)
@[simp] theorem State.group_with_link (s : State) (h : GroupId) (v : Link) : State.group { s with link := v } h = s.group h := (rfl)
@[simp] theorem State.micros_with_link (s : State) (v : Link) : State.micros { s with link := v } = s.micros := (rfl)
@[simp] theorem State.deviceTime_with_link (s : State) (v : Link) : State.deviceTime { s with link := v } = s.deviceTime := (rfl)

/-! ## All four axes changed -/

@[simp] theorem getElem_mapAxes (f : AxisId → Axis → Axis) (v : Vector Axis 4) (a : AxisId) :
    (mapAxes f v)[a.val] = f a v[a.val] := by
  fin_cases a <;> rfl

@[simp] theorem State.axis_modAxes (s : State) (b : AxisId) (f : AxisId → Axis → Axis) :
    (s.modAxes f).axis b = f b (s.axis b) := getElem_mapAxes f s.axes b

@[simp] theorem State.axis_with_axes (s : State) (b : AxisId) (f : AxisId → Axis → Axis) :
    State.axis { s with axes := mapAxes f s.axes } b = f b (s.axis b) := getElem_mapAxes f s.axes b

@[simp] theorem State.group_with_axes (s : State) (h : GroupId) (v : Vector Axis 4) :
    State.group { s with axes := v } h = s.group h := (rfl)

/-! ## The pool, the Report Unit, and all four axes -/

@[simp] theorem State.pending_setPool (s : State) (n : Nat) : (s.setPool n).pending = s.pending := (rfl)
@[simp] theorem State.freeCount_setPool (s : State) (n : Nat) : (s.setPool n).freeCount = s.freeCount := (rfl)
@[simp] theorem State.power_setPool (s : State) (n : Nat) : (s.setPool n).power = s.power := (rfl)
@[simp] theorem State.resetnLow_setPool (s : State) (n : Nat) : (s.setPool n).resetnLow = s.resetnLow := (rfl)
@[simp] theorem State.clock_setPool (s : State) (n : Nat) : (s.setPool n).clock = s.clock := (rfl)
@[simp] theorem State.reports_setPool (s : State) (n : Nat) : (s.setPool n).reports = s.reports := (rfl)
@[simp] theorem State.link_setPool (s : State) (n : Nat) : (s.setPool n).link = s.link := (rfl)
@[simp] theorem State.trip_setPool (s : State) (n : Nat) : (s.setPool n).trip = s.trip := (rfl)
@[simp] theorem State.straps_setPool (s : State) (n : Nat) : (s.setPool n).straps = s.straps := (rfl)
@[simp] theorem State.baud_setPool (s : State) (n : Nat) : (s.setPool n).baud = s.baud := (rfl)
@[simp] theorem State.micros_setPool (s : State) (n : Nat) : (s.setPool n).micros = s.micros := (rfl)
@[simp] theorem State.deviceTime_setPool (s : State) (n : Nat) : (s.setPool n).deviceTime = s.deviceTime := (rfl)
@[simp] theorem State.poolFree_setPool (s : State) (n : Nat) : (s.setPool n).poolFree = n := (rfl)
@[simp] theorem State.axis_setPool (s : State) (n : Nat) (b : AxisId) : (s.setPool n).axis b = s.axis b := (rfl)
@[simp] theorem State.group_setPool (s : State) (n : Nat) (h : GroupId) : (s.setPool n).group h = s.group h := (rfl)
@[simp] theorem State.pending_setReports (s : State) (r : ReportUnit) : (s.setReports r).pending = s.pending := (rfl)
@[simp] theorem State.freeCount_setReports (s : State) (r : ReportUnit) : (s.setReports r).freeCount = s.freeCount := (rfl)
@[simp] theorem State.power_setReports (s : State) (r : ReportUnit) : (s.setReports r).power = s.power := (rfl)
@[simp] theorem State.resetnLow_setReports (s : State) (r : ReportUnit) : (s.setReports r).resetnLow = s.resetnLow := (rfl)
@[simp] theorem State.clock_setReports (s : State) (r : ReportUnit) : (s.setReports r).clock = s.clock := (rfl)
@[simp] theorem State.poolFree_setReports (s : State) (r : ReportUnit) : (s.setReports r).poolFree = s.poolFree := (rfl)
@[simp] theorem State.link_setReports (s : State) (r : ReportUnit) : (s.setReports r).link = s.link := (rfl)
@[simp] theorem State.trip_setReports (s : State) (r : ReportUnit) : (s.setReports r).trip = s.trip := (rfl)
@[simp] theorem State.straps_setReports (s : State) (r : ReportUnit) : (s.setReports r).straps = s.straps := (rfl)
@[simp] theorem State.baud_setReports (s : State) (r : ReportUnit) : (s.setReports r).baud = s.baud := (rfl)
@[simp] theorem State.micros_setReports (s : State) (r : ReportUnit) : (s.setReports r).micros = s.micros := (rfl)
@[simp] theorem State.deviceTime_setReports (s : State) (r : ReportUnit) : (s.setReports r).deviceTime = s.deviceTime := (rfl)
@[simp] theorem State.reports_setReports (s : State) (r : ReportUnit) : (s.setReports r).reports = r := (rfl)
@[simp] theorem State.axis_setReports (s : State) (r : ReportUnit) (b : AxisId) : (s.setReports r).axis b = s.axis b := (rfl)
@[simp] theorem State.group_setReports (s : State) (r : ReportUnit) (h : GroupId) : (s.setReports r).group h = s.group h := (rfl)
@[simp] theorem State.pending_modAxes (s : State) (f : AxisId → Axis → Axis) : (s.modAxes f).pending = s.pending := (rfl)
@[simp] theorem State.freeCount_modAxes (s : State) (f : AxisId → Axis → Axis) : (s.modAxes f).freeCount = s.freeCount := (rfl)
@[simp] theorem State.power_modAxes (s : State) (f : AxisId → Axis → Axis) : (s.modAxes f).power = s.power := (rfl)
@[simp] theorem State.resetnLow_modAxes (s : State) (f : AxisId → Axis → Axis) : (s.modAxes f).resetnLow = s.resetnLow := (rfl)
@[simp] theorem State.clock_modAxes (s : State) (f : AxisId → Axis → Axis) : (s.modAxes f).clock = s.clock := (rfl)
@[simp] theorem State.poolFree_modAxes (s : State) (f : AxisId → Axis → Axis) : (s.modAxes f).poolFree = s.poolFree := (rfl)
@[simp] theorem State.reports_modAxes (s : State) (f : AxisId → Axis → Axis) : (s.modAxes f).reports = s.reports := (rfl)
@[simp] theorem State.link_modAxes (s : State) (f : AxisId → Axis → Axis) : (s.modAxes f).link = s.link := (rfl)
@[simp] theorem State.trip_modAxes (s : State) (f : AxisId → Axis → Axis) : (s.modAxes f).trip = s.trip := (rfl)
@[simp] theorem State.straps_modAxes (s : State) (f : AxisId → Axis → Axis) : (s.modAxes f).straps = s.straps := (rfl)
@[simp] theorem State.baud_modAxes (s : State) (f : AxisId → Axis → Axis) : (s.modAxes f).baud = s.baud := (rfl)
@[simp] theorem State.micros_modAxes (s : State) (f : AxisId → Axis → Axis) : (s.modAxes f).micros = s.micros := (rfl)
@[simp] theorem State.deviceTime_modAxes (s : State) (f : AxisId → Axis → Axis) : (s.modAxes f).deviceTime = s.deviceTime := (rfl)
@[simp] theorem State.group_modAxes (s : State) (f : AxisId → Axis → Axis) (h : GroupId) :
    (s.modAxes f).group h = s.group h := (rfl)

/-! ## Time passing -/

theorem State.passTo_of_le (s : State) {q : Nat} (h : q ≤ s.clock) : s.passTo q = s := by
  simp [State.passTo, Nat.not_lt.mpr h]

theorem State.axis_passTo (s : State) (q : Nat) (a : AxisId) :
    (s.passTo q).axis a =
      if s.clock < q then (s.axis a).spend (q / Config.quartersPerMicro - s.clock / Config.quartersPerMicro) else s.axis a := by
  unfold State.passTo
  split
  · exact getElem_mapAxes _ s.axes a
  · rfl

@[simp] theorem State.pending_passTo (s : State) (q : Nat) : (s.passTo q).pending = s.pending := by unfold State.passTo; split <;> rfl
@[simp] theorem State.freeCount_passTo (s : State) (q : Nat) : (s.passTo q).freeCount = s.freeCount := by unfold State.passTo; split <;> rfl
@[simp] theorem State.power_passTo (s : State) (q : Nat) : (s.passTo q).power = s.power := by unfold State.passTo; split <;> rfl
@[simp] theorem State.resetnLow_passTo (s : State) (q : Nat) : (s.passTo q).resetnLow = s.resetnLow := by unfold State.passTo; split <;> rfl
@[simp] theorem State.poolFree_passTo (s : State) (q : Nat) : (s.passTo q).poolFree = s.poolFree := by unfold State.passTo; split <;> rfl
@[simp] theorem State.reports_passTo (s : State) (q : Nat) : (s.passTo q).reports = s.reports := by unfold State.passTo; split <;> rfl
@[simp] theorem State.link_passTo (s : State) (q : Nat) : (s.passTo q).link = s.link := by unfold State.passTo; split <;> rfl
@[simp] theorem State.trip_passTo (s : State) (q : Nat) : (s.passTo q).trip = s.trip := by unfold State.passTo; split <;> rfl
@[simp] theorem State.straps_passTo (s : State) (q : Nat) : (s.passTo q).straps = s.straps := by unfold State.passTo; split <;> rfl
@[simp] theorem State.baud_passTo (s : State) (q : Nat) : (s.passTo q).baud = s.baud := by unfold State.passTo; split <;> rfl
@[simp] theorem State.group_passTo (s : State) (q : Nat) (h : GroupId) : (s.passTo q).group h = s.group h := by
  unfold State.passTo; split <;> rfl
@[simp] theorem State.clock_passTo (s : State) (q : Nat) : (s.passTo q).clock = max s.clock q := by
  unfold State.passTo; split <;> simp <;> omega

/-- Time takes nothing but the dwell time left of a DWELL that runs (R43). -/
theorem Axis.spend_frame (us : Nat) (x : Axis) :
    (x.spend us).st = x.st ∧ (x.spend us).queue = x.queue ∧ (x.spend us).position = x.position ∧ (x.spend us).rate = x.rate
      ∧ (x.spend us).faultRecord = x.faultRecord ∧ (x.spend us).ctx.isSome = x.ctx.isSome := by
  unfold Axis.spend
  cases h : x.ctx with
  | none => simp [h]
  | some c => by_cases p : c.phase = .timing <;> simp [p, h]

/-! ## The STEP and DIR outputs -/

@[simp] theorem StepOutput.high_turn (t : Nat) (d : Dir) (o : StepOutput) : (o.turn t d).high = o.high := (rfl)
@[simp] theorem StepOutput.dirShown_turn (t : Nat) (d : Dir) (o : StepOutput) : (o.turn t d).dirShown = d := (rfl)
@[simp] theorem StepOutput.turnTo_turn (t : Nat) (d : Dir) (o : StepOutput) : (o.turn t d).turnTo = none := (rfl)

/-- After the end of a pulse STEP is low and no DIR change waits (R170, R171). -/
@[simp] theorem StepOutput.high_endPulse (o : StepOutput) : o.endPulse.high = false := by
  unfold StepOutput.endPulse; cases o.turnTo <;> rfl
@[simp] theorem StepOutput.turnTo_endPulse (o : StepOutput) : o.endPulse.turnTo = none := by
  unfold StepOutput.endPulse; cases o.turnTo <;> simp

/-- The ATTN pin is low exactly while the queue holds an entry (R147). -/
@[simp] theorem State.attnPin_eq (s : State) : s.attnPin = s.reports.queue.isEmpty := by
  simp [State.attnPin, State.attnActive]

end Sys2Proof.Machine
end

