-- ==== Sys2Proof/Laws/Frame.lean ====
section
/-!
SUPPORT. Laws/Frame.lean: what the Segment Store, the Axis Controllers and the Protection Unit leave alone: every operation on one axis
changes that axis, the groups, the pool and the reports; everything that a list of tasks sets going changes the axes, the groups, the
pool and the reports.
-/

namespace Sys2Proof.Machine

/-- `t` is `s` but for the axes, the groups, the pool and the reports. -/
def State.motionOnly (s t : State) : Prop :=
  t = { s with axes := t.axes, groups := t.groups, poolFree := t.poolFree, reports := t.reports }

/-- `t` is `s` but for axis `a`, the groups, the pool and the reports. -/
def State.touches (s : State) (a : AxisId) (t : State) : Prop := s.motionOnly t ∧ ∀ b, b ≠ a → t.axis b = s.axis b

theorem State.motionOnly.refl (s : State) : s.motionOnly s := rfl

theorem State.motionOnly.trans {s t u : State} (h : s.motionOnly t) (k : t.motionOnly u) : s.motionOnly u := by
  unfold State.motionOnly at *
  rw [k, h]

theorem State.motionOnly.micros {s t : State} (h : s.motionOnly t) : t.micros = s.micros := by rw [h]; rfl
theorem State.motionOnly.deviceTime {s t : State} (h : s.motionOnly t) : t.deviceTime = s.deviceTime := by rw [h]; rfl
theorem State.motionOnly.link {s t : State} (h : s.motionOnly t) : t.link = s.link := by rw [h]
theorem State.motionOnly.pending {s t : State} (h : s.motionOnly t) : t.pending = s.pending := by rw [h]
theorem State.motionOnly.freeCount {s t : State} (h : s.motionOnly t) : t.freeCount = s.freeCount := by rw [h]
theorem State.motionOnly.power {s t : State} (h : s.motionOnly t) : t.power = s.power := by rw [h]
theorem State.motionOnly.clock {s t : State} (h : s.motionOnly t) : t.clock = s.clock := by rw [h]

theorem State.touches.refl (s : State) (a : AxisId) : s.touches a s := ⟨rfl, fun _ _ => rfl⟩

theorem State.touches.trans {s t u : State} {a : AxisId} (h : s.touches a t) (k : t.touches a u) : s.touches a u :=
  ⟨h.1.trans k.1, fun b n => (k.2 b n).trans (h.2 b n)⟩

/-! ## Homes, reports, the Segment Store -/

theorem State.touches_setAxis (s : State) (a : AxisId) (x : Axis) : s.touches a (s.setAxis a x) :=
  ⟨rfl, fun _ n => State.axis_setAxis_ne s x n⟩

theorem State.touches_modAxis (s : State) (a : AxisId) (f : Axis → Axis) : s.touches a (s.modAxis a f) :=
  State.touches_setAxis s a _

theorem State.touches_setGroup (s : State) (a : AxisId) (g : GroupId) (x : Group) : s.touches a (s.setGroup g x) :=
  ⟨rfl, fun _ _ => rfl⟩

theorem State.touches_modGroup (s : State) (a : AxisId) (g : GroupId) (f : Group → Group) : s.touches a (s.modGroup g f) :=
  ⟨rfl, fun _ _ => rfl⟩

theorem State.touches_setPool (s : State) (a : AxisId) (n : Nat) : s.touches a (s.setPool n) := ⟨rfl, fun _ _ => rfl⟩

theorem State.touches_report (s : State) (a : AxisId) (b : ReportBody) : s.touches a (s.report b) := ⟨rfl, fun _ _ => rfl⟩

theorem State.touches_report? (s : State) (a : AxisId) (b : Option ReportBody) : s.touches a (s.report? b) := by
  cases b with
  | none => exact .refl s a
  | some b => exact s.touches_report a b

theorem State.touches_addRef (s : State) (a : AxisId) (seg : Segment) : s.touches a (s.addRef seg) := by
  unfold State.addRef; cases seg.gate with
  | none => exact .refl s a
  | some g => exact s.touches_modGroup a g _

theorem State.touches_dropRef (s : State) (a : AxisId) (seg : Segment) : s.touches a (s.dropRef seg) := by
  unfold State.dropRef; cases seg.gate with
  | none => exact .refl s a
  | some g => exact s.touches_modGroup a g _

theorem State.touches_addRefs (s : State) (a : AxisId) (segs : List Segment) : s.touches a (segs.foldl State.addRef s) := by
  induction segs generalizing s with
  | nil => exact .refl s a
  | cons seg segs ih => exact (s.touches_addRef a seg).trans (ih _)

theorem State.touches_dropRefs (s : State) (a : AxisId) (segs : List Segment) : s.touches a (segs.foldl State.dropRef s) := by
  induction segs generalizing s with
  | nil => exact .refl s a
  | cons seg segs ih => exact (s.touches_dropRef a seg).trans (ih _)

theorem State.touches_enqueue (s : State) (a : AxisId) (segs : List Segment) : s.touches a (s.enqueue a segs) :=
  ((s.touches_modAxis a _).trans (State.touches_setPool _ a _)).trans (State.touches_addRefs _ a segs)

theorem State.touches_dropTail (s : State) (a : AxisId) (keep : Nat) : s.touches a (s.dropTail a keep) :=
  ((s.touches_modAxis a _).trans (State.touches_setPool _ a _)).trans (State.touches_dropRefs _ a _)

theorem State.touches_removeHead (s : State) (a : AxisId) : s.touches a (s.removeHead a) := by
  unfold State.removeHead
  cases (s.axis a).queue with
  | nil => exact s.touches_modAxis a _
  | cons seg q =>
    exact (((s.touches_modAxis a _).trans (State.touches_setPool _ a _)).trans (State.touches_dropRef _ a seg)).trans
      (State.touches_report? _ a _)

theorem State.touches_withdraw (s : State) (a : AxisId) : s.touches a (s.withdraw a) := by
  unfold State.withdraw
  split
  · cases (s.axis a).headGate with
    | none => exact .refl s a
    | some g => exact s.touches_modGroup a g _
  · exact .refl s a

/-! ## Departures, faults, brakes -/

theorem State.touches_completeActive (s : State) (a : AxisId) : s.touches a (s.completeActive a) := by
  unfold State.completeActive
  cases (s.axis a).ctx with
  | none => exact .refl s a
  | some c => exact (s.touches_report? a _).trans (State.touches_removeHead _ a)

theorem State.touches_abortActive (s : State) (a : AxisId) (r : AbortReason) : s.touches a (s.abortActive a r) := by
  unfold State.abortActive
  cases (s.axis a).ctx with
  | none => exact .refl s a
  | some c => exact (s.touches_report a _).trans (State.touches_removeHead _ a)

theorem State.touches_enterHeld (s : State) (a : AxisId) : s.touches a (s.enterHeld a) := s.touches_modAxis a _

theorem State.touches_reachReady (s : State) (a : AxisId) : s.touches a (s.reachReady a) := by
  unfold State.reachReady
  have h := ((s.touches_modAxis a fun x => { x with rate := 0 }).trans (State.touches_abortActive _ a .stopped)).trans
    (State.touches_modAxis _ a fun x => { x with st := .ready, ena := true })
  dsimp only
  split
  · exact (h.trans (State.touches_dropTail _ a 0)).trans (State.touches_modAxis _ a _)
  · exact h

theorem State.touches_enterFault (s : State) (a : AxisId) (ena : Bool) : s.touches a (s.enterFault a ena) :=
  ((s.touches_modAxis a fun x => { x with rate := 0 }).trans (State.touches_abortActive _ a .fault)).trans
    (State.touches_modAxis _ a fun x => { x with st := .fault, ena := ena, owedFlush := false })

theorem State.touches_holdBrakeDone (s : State) (a : AxisId) (c : Ctx) : s.touches a (s.holdBrakeDone a c) := by
  unfold State.holdBrakeDone
  split
  · exact (s.touches_completeActive a).trans (State.touches_enterHeld _ a)
  · exact (s.touches_modAxis a _).trans (State.touches_enterHeld _ a)

theorem State.touches_settleBrake (s : State) (a : AxisId) : s.touches a (s.settleBrake a) := by
  unfold State.settleBrake
  cases (s.axis a).ctx with
  | none => exact .refl s a
  | some c =>
    dsimp only
    cases c.brakeEnd <;> cases (s.axis a).st <;>
      first
      | exact .refl s a
      | exact (s.touches_completeActive a).trans (State.touches_enterHeld _ a)
      | exact (s.touches_completeActive a).trans (State.touches_reachReady _ a)
      | exact (s.touches_completeActive a).trans (State.touches_enterFault _ a _)
      | exact s.touches_holdBrakeDone a c
      | exact s.touches_reachReady a
      | exact s.touches_enterFault a _

theorem State.touches_firstCause (s : State) (a : AxisId) (cause : Cause) : s.touches a (s.firstCause a cause) := by
  unfold State.firstCause
  have h := (s.touches_modAxis a fun y => { y with faultRecord := some (s.faultRecordOf a cause) }).trans
    (State.touches_report _ a (.faultRaised a cause (s.axis a).position (s.axis a).encoder.position (s.axis a).fe
      ((s.axis a).ctx.map (·.seg.tag))))
  dsimp only
  cases (s.axis a).protection.policy cause with
  | halt => exact (h.trans (State.touches_withdraw _ a)).trans (State.touches_enterFault _ a false)
  | brake =>
    cases k : (s.axis a).stepping
    · exact (h.trans (State.touches_withdraw _ a)).trans (State.touches_enterFault _ a _)
    · exact (h.trans (State.touches_modAxis _ a Axis.enterFaultBrake)).trans (State.touches_settleBrake _ a)

theorem State.touches_laterCause (s : State) (a : AxisId) (cause : Cause) : s.touches a (s.laterCause a cause) := by
  unfold State.laterCause
  have h := s.touches_modAxis a fun x => { x with faultRecord := x.faultRecord.map (FaultRecord.add cause) }
  dsimp only
  split
  · exact h.trans (State.touches_enterFault _ a false)
  · exact h

/-- Raising a cause on an axis (R117). -/
theorem State.touches_raiseCause (s : State) (a : AxisId) (cause : Cause) : s.touches a (s.raiseCause a cause) := by
  unfold State.raiseCause
  cases (s.axis a).st <;>
    first
    | exact .refl s a
    | exact s.touches_firstCause a cause
    | exact s.touches_laterCause a cause

/-- In OFF every cause is ignored (R117). -/
theorem State.raiseCause_off {s : State} {a : AxisId} (cause : Cause) (h : (s.axis a).st = .off) : s.raiseCause a cause = s := by
  simp [State.raiseCause, h]

/-- A SILENCE taken by its axis (R161). -/
theorem State.touches_takeSilence (s : State) (a : AxisId) : s.touches a (s.takeSilence a) := by
  unfold State.takeSilence
  split
  · exact (s.touches_modAxis a _).trans (State.touches_raiseCause _ a _)
  · exact .refl s a

theorem State.motionOnly_takeSilences (s : State) : s.motionOnly s.takeSilences :=
  (((s.touches_takeSilence 0).1.trans (State.touches_takeSilence _ 1).1).trans (State.touches_takeSilence _ 2).1).trans
    (State.touches_takeSilence _ 3).1

/-- With no SILENCE on its way nothing is taken. -/
theorem State.takeSilence_of_none {s : State} {a : AxisId} (h : (s.axis a).silencePending = false) : s.takeSilence a = s := by
  simp [State.takeSilence, h]

theorem State.takeSilences_of_none {s : State} (h : ∀ a, (s.axis a).silencePending = false) : s.takeSilences = s := by
  simp [State.takeSilences, State.takeSilence_of_none (h _)]

theorem State.touches_evaluateFollow (s : State) (a : AxisId) : s.touches a (s.evaluateFollow a) := by
  unfold State.evaluateFollow
  split
  · exact s.touches_raiseCause a _
  · exact .refl s a

/-! ## Steps -/

theorem State.touches_completeMove (s : State) (a : AxisId) (c : Ctx) (e : Nat) : s.touches a (s.completeMove a c e).1 := by
  unfold State.completeMove
  dsimp only
  split
  · exact (s.touches_completeActive a).trans (State.touches_report _ a _)
  · exact s.touches_completeActive a

theorem State.touches_completeAtRest (s : State) (a : AxisId) : s.touches a (s.completeAtRest a).1 :=
  (s.touches_completeActive a).trans (State.touches_modAxis _ a fun x => { x with rate := 0 })

theorem State.touches_stepEffects (s : State) (a : AxisId) : s.touches a (s.stepEffects a).1 := by
  unfold State.stepEffects
  cases (s.axis a).ctx with
  | none => exact .refl s a
  | some c =>
    dsimp only
    split
    · split
      · cases c.brakeEnd with
        | running => exact .refl s a
        | exhausted | completed => exact s.touches_completeAtRest a
      · split
        · cases c.seg.body with
          | move _ _ e _ => exact s.touches_completeMove a c e
          | seek => exact (s.touches_completeActive a).trans (State.touches_enterHeld _ a)
          | dwell | mark => exact .refl s a
        · exact .refl s a
    · exact s.touches_settleBrake a

theorem State.touches_issueStep (s : State) (a : AxisId) : s.touches a (s.issueStep a).1 := by
  unfold State.issueStep
  cases (s.axis a).ctx with
  | none => exact .refl s a
  | some c =>
    exact ((s.touches_modAxis a _).trans (State.touches_evaluateFollow _ a)).trans (State.touches_stepEffects _ a)

theorem State.touches_attemptStep (s : State) (a : AxisId) : s.touches a (s.attemptStep a).1 := by
  unfold State.attemptStep
  cases (s.axis a).ctx with
  | none => exact .refl s a
  | some c =>
    dsimp only
    have h := s.touches_modAxis a fun x => { x with ctx := some { c with delayed := none } }
    split
    · have k := h.trans (State.touches_raiseCause _ a (limitOf c.seg.body.dir).2)
      split
      · exact k.trans (State.touches_issueStep _ a)
      · exact k
    · exact h.trans (State.touches_issueStep _ a)

theorem State.touches_stepFallsDue (s : State) (a : AxisId) : s.touches a (s.stepFallsDue a).1 := by
  unfold State.stepFallsDue
  dsimp only
  cases ((s.axis a).endPulseIfOver s.clock).ctx with
  | none => exact .refl s a
  | some c =>
    dsimp only
    split
    · split
      · exact (s.touches_setAxis a _).trans (State.touches_attemptStep _ a)
      · exact s.touches_setAxis a _
    · exact .refl s a

/-! ## Tasks -/

theorem State.motionOnly_release (s : State) (g : GroupId) : s.motionOnly (s.release g).1 := by
  unfold State.release
  dsimp only
  split <;> rfl

theorem State.motionOnly_arrive (s : State) (a : AxisId) (g : GroupId) : s.motionOnly (s.arrive a g).1 := by
  unfold State.arrive
  dsimp only
  split
  · refine State.motionOnly.trans ?_ (State.motionOnly_release _ g)
    rfl
  · rfl

theorem State.motionOnly_beginHead (s : State) (a : AxisId) (c : Option Nat) : s.motionOnly (s.beginHead a c).1 := by
  unfold State.beginHead
  split
  · cases (s.axis a).queue with
    | nil => rfl
    | cons seg q =>
      dsimp only
      cases seg.gate with
      | none => rfl
      | some g => exact s.motionOnly_arrive a g
  · rfl

theorem State.touches_activate (s : State) (a : AxisId) (c : Option Nat) : s.touches a (s.activate a c).1 := by
  unfold State.activate
  split
  · cases (s.axis a).queue with
    | nil => exact .refl s a
    | cons seg q =>
      dsimp only
      generalize newCtx seg (if (s.axis a).rate = 0 then none else c) = k
      have h := s.touches_modAxis a fun x => { x with st := .run, ctx := some k }
      cases seg.body with
      | move | seek => exact h
      | dwell => exact h.trans (State.touches_modAxis _ a fun x => { x with rate := 0 })
      | mark => exact h.trans (State.touches_completeActive _ a)
  · exact .refl s a

theorem State.motionOnly_runTask (s : State) (t : Task) : s.motionOnly (s.runTask t).1 := by
  cases t with
  | beginHead a c => exact s.motionOnly_beginHead a c
  | activate a c => exact (s.touches_activate a c).1
  | stepNow a => exact (s.touches_stepFallsDue a).1

/-- What every task keeps, a run of tasks keeps. -/
theorem State.runTasks_keeps {P : State → Prop} (keep : ∀ s t, P s → P (s.runTask t).1) (n : Nat) (ts : List Task) (s : State)
    (h : P s) : P (State.runTasks n ts s) := by
  induction n generalizing s ts with
  | zero => exact h
  | succ n ih =>
    cases ts with
    | nil => exact h
    | cons t ts => exact ih _ _ (keep s t h)

theorem State.motionOnly_settle (s : State) (ts : List Task) : s.motionOnly (s.settle ts) :=
  State.runTasks_keeps (P := s.motionOnly) (fun _ t h => h.trans (State.motionOnly_runTask _ t)) _ ts s (.refl s)

theorem motionOnly_settleAll {s : State} {r : State × List Task} (h : s.motionOnly r.1) : s.motionOnly (settleAll r) :=
  h.trans (State.motionOnly_settle r.1 r.2)

end Sys2Proof.Machine
end

