-- ==== Sys2Proof/Laws/Requests.lean ====
section
/-!
SUPPORT. Laws/Requests.lean: what taking a frame does (R156, R157): the frame that is offered is taken and answered, any other leaves the
state as it is; and the field lemmas of the answer.
-/

namespace Sys2Proof.Machine

/-! ## The answer, field by field -/

section
variable (s : State) (f : Frame) (rest : List Frame) (p : List Byte)

@[simp] theorem State.axis_answered (a : AxisId) : (s.answered f rest p).axis a = s.axis a := (rfl)
@[simp] theorem State.group_answered (g : GroupId) : (s.answered f rest p).group g = s.group g := (rfl)
@[simp] theorem State.micros_answered : (s.answered f rest p).micros = s.micros := (rfl)
@[simp] theorem State.deviceTime_answered : (s.answered f rest p).deviceTime = s.deviceTime := (rfl)
@[simp] theorem State.pending_answered : (s.answered f rest p).pending = s.pending := (rfl)
@[simp] theorem State.power_answered : (s.answered f rest p).power = s.power := (rfl)
@[simp] theorem State.clock_answered : (s.answered f rest p).clock = s.clock := (rfl)
@[simp] theorem State.poolFree_answered : (s.answered f rest p).poolFree = s.poolFree := (rfl)
@[simp] theorem State.reports_answered : (s.answered f rest p).reports = s.reports := (rfl)
@[simp] theorem State.trip_answered : (s.answered f rest p).trip = s.trip := (rfl)

/-! ## A frame taken, field by field -/

/-- Taking a frame changes the Command Link alone. -/
theorem State.takeFrame_eq :
    s.takeFrame rest = { s with
      link := { s.link with
        rxBuffer := rest
        silenceTimer :=
          if s.link.silenceTimeout = 0 then s.link.silenceTimer else some (s.micros + s.link.silenceTimeout * 1000) } } := by
  unfold State.takeFrame State.restartSilence
  by_cases h : s.link.silenceTimeout = 0 <;> simp [h, State.modLink, State.micros]

/-- A refusal, or any answer that leaves the rest of the state, is the answer to the frame. -/
theorem State.placeReply_takeFrame : (s.takeFrame rest).placeReply f p = s.answered f rest p := by
  rw [State.takeFrame_eq]; rfl

@[simp] theorem State.axis_takeFrame (a : AxisId) : (s.takeFrame rest).axis a = s.axis a := by rw [State.takeFrame_eq]; rfl
@[simp] theorem State.group_takeFrame (g : GroupId) : (s.takeFrame rest).group g = s.group g := by rw [State.takeFrame_eq]; rfl
@[simp] theorem State.micros_takeFrame : (s.takeFrame rest).micros = s.micros := by rw [State.takeFrame_eq]; rfl
@[simp] theorem State.deviceTime_takeFrame : (s.takeFrame rest).deviceTime = s.deviceTime := by rw [State.takeFrame_eq]; rfl
@[simp] theorem State.pending_takeFrame : (s.takeFrame rest).pending = s.pending := by rw [State.takeFrame_eq]
@[simp] theorem State.freeCount_takeFrame : (s.takeFrame rest).freeCount = s.freeCount := by rw [State.takeFrame_eq]
@[simp] theorem State.power_takeFrame : (s.takeFrame rest).power = s.power := by rw [State.takeFrame_eq]
@[simp] theorem State.clock_takeFrame : (s.takeFrame rest).clock = s.clock := by rw [State.takeFrame_eq]
@[simp] theorem State.poolFree_takeFrame : (s.takeFrame rest).poolFree = s.poolFree := by rw [State.takeFrame_eq]
@[simp] theorem State.reports_takeFrame : (s.takeFrame rest).reports = s.reports := by rw [State.takeFrame_eq]
@[simp] theorem State.trip_takeFrame : (s.takeFrame rest).trip = s.trip := by rw [State.takeFrame_eq]
@[simp] theorem State.baud_takeFrame : (s.takeFrame rest).baud = s.baud := by rw [State.takeFrame_eq]

end

/-! ## Which frames are taken -/

/-- A frame that is offered is taken: its handler runs on the state without the frame, and its reply is placed. -/
theorem State.takeRequest_of_offers {s : State} {f : Frame} {rest : List Frame} {code : Byte} (h : Handler) (o : s.offers f rest)
    (c : f.code = code) :
    s.takeRequest code h = (h f.payload (s.takeFrame rest)).1.placeReply f (h f.payload (s.takeFrame rest)).2 := by
  obtain ⟨on, buffer, slot, pending, fresh, quiet⟩ := o
  unfold State.takeRequest
  rw [buffer]
  have d : s.isDuplicate f = false := by
    cases v : s.link.dup.valid
    · simp [State.isDuplicate, v]
    · simpa [State.isDuplicate, v] using fresh v
  simp [State.decoderReady, on, slot, pending, d, c, State.takeSilences_of_none quiet]

/-- Everything that a request command can do: nothing, or, after every SILENCE on its way, the handler of a new frame with its reply. -/
theorem State.takeRequest_cases (s : State) (code : Byte) (h : Handler) :
    s.takeRequest code h = s ∨ ∃ f rest, s.decoderReady = true ∧ s.link.rxBuffer = f :: rest ∧ s.isDuplicate f = false
      ∧ f.code = code
      ∧ s.takeRequest code h = (h f.payload (s.takeSilences.takeFrame rest)).1.placeReply f
          (h f.payload (s.takeSilences.takeFrame rest)).2 := by
  unfold State.takeRequest
  cases b : s.link.rxBuffer with
  | nil => exact .inl rfl
  | cons f rest =>
    by_cases c : (s.decoderReady && !s.isDuplicate f && decide (f.code = code)) = true
    · refine .inr ⟨f, rest, ?_, rfl, ?_, ?_, by simp only [c, if_true]⟩ <;> simp at c
      · exact c.1.1
      · exact c.1.2
      · exact c.2
    · exact .inl (by simp only [c]; rfl)

/-- Check 2 of R157 passed. -/
@[simp] theorem checkLength_of_eq {n : Nat} {h : Handler} {p : List Byte} {s : State} (e : p.length = n) :
    checkLength n h p s = h p s := by simp [checkLength, e]

/-- Check 2 of R157 failed. -/
theorem checkLength_of_ne {n : Nat} {h : Handler} {p : List Byte} {s : State} (e : p.length ≠ n) :
    checkLength n h p s = (s, [2]) := by simp [checkLength, e, refuse, Status.code]

@[simp] theorem toNat_axisByte (a : AxisId) : (axisByte a).toNat = a.val := by fin_cases a <;> rfl
@[simp] theorem axisOf_axisByte (a : AxisId) : axisOf (axisByte a) = some a := by fin_cases a <;> rfl
@[simp] theorem toNat_groupByte (g : GroupId) : (groupByte g).toNat = g.val := by fin_cases g <;> rfl
@[simp] theorem groupOf_groupByte (g : GroupId) : groupOf (groupByte g) = some g := by fin_cases g <;> rfl

/-- An axis byte in range. -/
theorem onAxis_of_byte {h : AxisId → Handler} {p : List Byte} {s : State} {a : AxisId} (e : byteAt p 0 = axisByte a) :
    onAxis h p s = h a p s := by simp [onAxis, e]

/-- An axis byte out of range. -/
theorem onAxis_of_le {h : AxisId → Handler} {p : List Byte} {s : State} (e : 4 ≤ (byteAt p 0).toNat) :
    onAxis h p s = (s, [3]) := by simp [onAxis, axisOf, Nat.not_lt.mpr e, refuse, Status.code]

/-- A group byte in range. -/
theorem onGroup_of_byte {h : GroupId → Handler} {p : List Byte} {s : State} {g : GroupId} (e : byteAt p 0 = groupByte g) :
    onGroup h p s = h g p s := by simp [onGroup, e]

/-- A group byte out of range. -/
theorem onGroup_of_le {h : GroupId → Handler} {p : List Byte} {s : State} (e : 8 ≤ (byteAt p 0).toNat) :
    onGroup h p s = (s, [3]) := by simp [onGroup, groupOf, Nat.not_lt.mpr e, refuse, Status.code]

end Sys2Proof.Machine
end

