-- ==== Sys2Proof/Laws/Link.lean ====
section
/-!
SUPPORT. Laws/Link.lean: the Segment Store, the Axis Controllers, the Protection Unit and the Report Unit neither read nor change the
Command Link: each of their operations commutes with a change of it. So a handler of theirs, run on the state whose frame has been
taken, gives what it gives on the state itself, answered.
-/

namespace Sys2Proof.Machine

/-- `s` with another Command Link. -/
def State.withLink (s : State) (l : Link) : State := { s with link := l }

section
variable (s : State) (l : Link)

@[simp] theorem State.axis_withLink (a : AxisId) : (s.withLink l).axis a = s.axis a := (rfl)
@[simp] theorem State.group_withLink (g : GroupId) : (s.withLink l).group g = s.group g := (rfl)
@[simp] theorem State.groups_withLink : (s.withLink l).groups = s.groups := (rfl)
@[simp] theorem State.axes_withLink : (s.withLink l).axes = s.axes := (rfl)
@[simp] theorem State.micros_withLink : (s.withLink l).micros = s.micros := (rfl)
@[simp] theorem State.deviceTime_withLink : (s.withLink l).deviceTime = s.deviceTime := (rfl)
@[simp] theorem State.poolFree_withLink : (s.withLink l).poolFree = s.poolFree := (rfl)
@[simp] theorem State.reports_withLink : (s.withLink l).reports = s.reports := (rfl)
@[simp] theorem State.link_withLink : (s.withLink l).link = l := (rfl)
@[simp] theorem State.clock_withLink : (s.withLink l).clock = s.clock := (rfl)

/-- The frame taken and answered are a change of the link. -/
theorem State.takeFrame_withLink (rest : List Frame) : s.takeFrame rest = s.withLink (s.takeFrame rest).link := by
  rw [State.takeFrame_eq]; rfl

/-- Two links, the later one. -/
@[simp] theorem State.withLink_withLink (k : Link) : (s.withLink l).withLink k = s.withLink k := (rfl)

/-- A choice between two states, the link replaced in each. -/
@[simp] theorem State.withLink_ite (p : Prop) [Decidable p] (u : State) :
    (if p then s else u).withLink l = if p then s.withLink l else u.withLink l := by split <;> rfl

/-! ## Shared operations -/

@[simp] theorem State.withLink_setAxis (a : AxisId) (x : Axis) : (s.withLink l).setAxis a x = (s.setAxis a x).withLink l := (rfl)
@[simp] theorem State.withLink_modAxis (a : AxisId) (f : Axis → Axis) : (s.withLink l).modAxis a f = (s.modAxis a f).withLink l := (rfl)
@[simp] theorem State.withLink_setGroup (g : GroupId) (x : Group) : (s.withLink l).setGroup g x = (s.setGroup g x).withLink l := (rfl)
@[simp] theorem State.withLink_modGroup (g : GroupId) (f : Group → Group) :
    (s.withLink l).modGroup g f = (s.modGroup g f).withLink l := (rfl)
@[simp] theorem State.withLink_setPool (n : Nat) : (s.withLink l).setPool n = (s.setPool n).withLink l := (rfl)
@[simp] theorem State.withLink_setReports (r : ReportUnit) : (s.withLink l).setReports r = (s.setReports r).withLink l := (rfl)
@[simp] theorem State.withLink_modAxes (f : AxisId → Axis → Axis) : (s.withLink l).modAxes f = (s.modAxes f).withLink l := (rfl)
@[simp] theorem State.withLink_report (b : ReportBody) : (s.withLink l).report b = (s.report b).withLink l := (rfl)
@[simp] theorem State.withLink_report? (b : Option ReportBody) : (s.withLink l).report? b = (s.report? b).withLink l := by
  cases b <;> rfl
@[simp] theorem State.withLink_addRef (seg : Segment) : (s.withLink l).addRef seg = (s.addRef seg).withLink l := by
  unfold State.addRef; cases seg.gate <;> rfl
@[simp] theorem State.withLink_dropRef (seg : Segment) : (s.withLink l).dropRef seg = (s.dropRef seg).withLink l := by
  unfold State.dropRef; cases seg.gate <;> rfl
@[simp] theorem State.withLink_addRefs (segs : List Segment) :
    segs.foldl State.addRef (s.withLink l) = (segs.foldl State.addRef s).withLink l := by
  induction segs generalizing s with
  | nil => rfl
  | cons seg segs ih => simp [ih]
@[simp] theorem State.withLink_dropRefs (segs : List Segment) :
    segs.foldl State.dropRef (s.withLink l) = (segs.foldl State.dropRef s).withLink l := by
  induction segs generalizing s with
  | nil => rfl
  | cons seg segs ih => simp [ih]
@[simp] theorem State.withLink_enqueue (a : AxisId) (segs : List Segment) :
    (s.withLink l).enqueue a segs = (s.enqueue a segs).withLink l := by
  simp [State.enqueue]
@[simp] theorem State.withLink_dropTail (a : AxisId) (keep : Nat) :
    (s.withLink l).dropTail a keep = (s.dropTail a keep).withLink l := by
  simp [State.dropTail, -List.foldl_reverse]
@[simp] theorem State.withLink_removeHead (a : AxisId) : (s.withLink l).removeHead a = (s.removeHead a).withLink l := by
  unfold State.removeHead
  simp only [State.axis_withLink]
  cases (s.axis a).queue with
  | nil => rfl
  | cons seg rest => simp
@[simp] theorem State.withLink_withdrawFrom (g : GroupId) (a : AxisId) :
    (s.withLink l).withdrawFrom g a = (s.withdrawFrom g a).withLink l := (rfl)
@[simp] theorem State.withLink_withdraw (a : AxisId) : (s.withLink l).withdraw a = (s.withdraw a).withLink l := by
  cases h : (s.axis a).headGate <;> simp [State.withdraw, h]

/-! ## Faults and the ends of brakes -/

@[simp] theorem State.withLink_completeActive (a : AxisId) :
    (s.withLink l).completeActive a = (s.completeActive a).withLink l := by
  unfold State.completeActive
  simp only [State.axis_withLink]
  cases (s.axis a).ctx <;> simp
@[simp] theorem State.withLink_abortActive (a : AxisId) (r : AbortReason) :
    (s.withLink l).abortActive a r = (s.abortActive a r).withLink l := by
  unfold State.abortActive
  simp only [State.axis_withLink]
  cases (s.axis a).ctx <;> simp
@[simp] theorem State.withLink_enterHeld (a : AxisId) : (s.withLink l).enterHeld a = (s.enterHeld a).withLink l := (rfl)
@[simp] theorem State.withLink_reachReady (a : AxisId) : (s.withLink l).reachReady a = (s.reachReady a).withLink l := by
  unfold State.reachReady
  simp
@[simp] theorem State.withLink_enterFault (a : AxisId) (ena : Bool) :
    (s.withLink l).enterFault a ena = (s.enterFault a ena).withLink l := by
  unfold State.enterFault
  simp only [State.withLink_modAxis, State.withLink_abortActive]
@[simp] theorem State.withLink_holdBrakeDone (a : AxisId) (c : Ctx) :
    (s.withLink l).holdBrakeDone a c = (s.holdBrakeDone a c).withLink l := by
  unfold State.holdBrakeDone; simp
@[simp] theorem State.withLink_settleBrake (a : AxisId) : (s.withLink l).settleBrake a = (s.settleBrake a).withLink l := by
  unfold State.settleBrake
  simp only [State.axis_withLink]
  cases (s.axis a).ctx with
  | none => rfl
  | some c => cases h : c.brakeEnd <;> cases (s.axis a).st <;> simp [h]
@[simp] theorem State.withLink_firstCause (a : AxisId) (c : Cause) :
    (s.withLink l).firstCause a c = (s.firstCause a c).withLink l := by
  have r : (s.withLink l).faultRecordOf a c = s.faultRecordOf a c := (rfl)
  unfold State.firstCause
  simp only [r, State.axis_withLink, State.withLink_modAxis, State.withLink_report]
  cases (s.axis a).protection.policy c <;> simp
@[simp] theorem State.withLink_laterCause (a : AxisId) (c : Cause) :
    (s.withLink l).laterCause a c = (s.laterCause a c).withLink l := by
  unfold State.laterCause
  simp
@[simp] theorem State.withLink_raiseCause (a : AxisId) (c : Cause) :
    (s.withLink l).raiseCause a c = (s.raiseCause a c).withLink l := by
  unfold State.raiseCause
  simp only [State.axis_withLink]
  cases (s.axis a).st <;> simp
@[simp] theorem State.withLink_evaluateFollow (a : AxisId) :
    (s.withLink l).evaluateFollow a = (s.evaluateFollow a).withLink l := by
  unfold State.evaluateFollow
  simp

@[simp] theorem State.withLink_takeSilence (a : AxisId) : (s.withLink l).takeSilence a = (s.takeSilence a).withLink l := by
  unfold State.takeSilence
  simp
@[simp] theorem State.withLink_takeSilences : (s.withLink l).takeSilences = s.takeSilences.withLink l := by
  simp [State.takeSilences]

/-! ## Motion -/

/-- The link of a state with tasks replaced. -/
def linkOnto (l : Link) (r : State × List Task) : State × List Task := (r.1.withLink l, r.2)

@[simp] theorem linkOnto_mk (t : State) (ts : List Task) : linkOnto l (t, ts) = (t.withLink l, ts) := (rfl)
@[simp] theorem linkOnto_ite (p : Prop) [Decidable p] (r u : State × List Task) :
    linkOnto l (if p then r else u) = if p then linkOnto l r else linkOnto l u := by split <;> rfl

@[simp] theorem State.withLink_mayBegin (a : AxisId) : (s.withLink l).mayBegin a = s.mayBegin a := (rfl)
@[simp] theorem State.withLink_starve (a : AxisId) : (s.withLink l).starve a = (s.starve a).withLink l := (rfl)
@[simp] theorem State.withLink_release (g : GroupId) : (s.withLink l).release g = linkOnto l (s.release g) := by
  unfold State.release
  cases h : (s.group g).releaseReport <;> simp [h]
@[simp] theorem State.withLink_arrive (a : AxisId) (g : GroupId) : (s.withLink l).arrive a g = linkOnto l (s.arrive a g) := by
  unfold State.arrive
  by_cases h : (s.group g).arrived ||| axisBit a = (s.group g).members <;> simp [h]
@[simp] theorem State.withLink_beginHead (a : AxisId) (c : Option Nat) :
    (s.withLink l).beginHead a c = linkOnto l (s.beginHead a c) := by
  unfold State.beginHead
  cases m : s.mayBegin a
  · simp [m]
  · cases k : (s.axis a).queue with
    | nil => simp [m, k]
    | cons seg q => cases h : seg.gate <;> simp [m, k, h]
@[simp] theorem State.withLink_activate (a : AxisId) (c : Option Nat) :
    (s.withLink l).activate a c = linkOnto l (s.activate a c) := by
  unfold State.activate
  cases m : s.mayBegin a
  · simp [m]
  · cases k : (s.axis a).queue with
    | nil => simp [m, k]
    | cons seg q => cases h : seg.body <;> simp [m, k, h]
@[simp] theorem State.withLink_completeMove (a : AxisId) (c : Ctx) (e : Nat) :
    (s.withLink l).completeMove a c e = linkOnto l (s.completeMove a c e) := by
  simp [State.completeMove]
@[simp] theorem State.withLink_completeAtRest (a : AxisId) :
    (s.withLink l).completeAtRest a = linkOnto l (s.completeAtRest a) := by
  simp [State.completeAtRest]
@[simp] theorem State.withLink_stepEffects (a : AxisId) : (s.withLink l).stepEffects a = linkOnto l (s.stepEffects a) := by
  unfold State.stepEffects
  simp only [State.axis_withLink]
  cases (s.axis a).ctx with
  | none => rfl
  | some c => cases h : c.brakeEnd <;> cases k : c.seg.body <;> simp [h, k]
@[simp] theorem State.withLink_issueStep (a : AxisId) : (s.withLink l).issueStep a = linkOnto l (s.issueStep a) := by
  unfold State.issueStep
  simp only [State.axis_withLink]
  cases (s.axis a).ctx <;> simp
@[simp] theorem State.withLink_attemptStep (a : AxisId) : (s.withLink l).attemptStep a = linkOnto l (s.attemptStep a) := by
  unfold State.attemptStep
  simp only [State.axis_withLink]
  cases (s.axis a).ctx with
  | none => rfl
  | some c => simp
@[simp] theorem State.withLink_stepFallsDue (a : AxisId) :
    (s.withLink l).stepFallsDue a = linkOnto l (s.stepFallsDue a) := by
  unfold State.stepFallsDue
  simp only [State.axis_withLink, State.clock_withLink]
  cases ((s.axis a).endPulseIfOver s.clock).ctx with
  | none => rfl
  | some c =>
    simp only [State.withLink_setAxis, State.withLink_attemptStep, linkOnto_ite, linkOnto_mk]
@[simp] theorem State.withLink_runTask (t : Task) : (s.withLink l).runTask t = linkOnto l (s.runTask t) := by
  cases t <;> simp [State.runTask]
@[simp] theorem State.withLink_runTasks (n : Nat) (ts : List Task) :
    State.runTasks n ts (s.withLink l) = (State.runTasks n ts s).withLink l := by
  induction n generalizing s ts with
  | zero => rfl
  | succ n ih =>
    cases ts with
    | nil => rfl
    | cons t ts => simpa [State.runTasks, linkOnto] using ih _ _
@[simp] theorem State.withLink_settle (ts : List Task) : (s.withLink l).settle ts = (s.settle ts).withLink l :=
  State.withLink_runTasks s l _ ts
@[simp] theorem settleAll_linkOnto (r : State × List Task) : settleAll (linkOnto l r) = (settleAll r).withLink l :=
  State.withLink_settle r.1 l r.2

end

/-! ## The frame taken, seen from outside -/

/-- A handler's work that commutes with the link, on the state whose frame has been taken and with its reply placed, is its work on
the state itself, answered. -/
theorem State.placeReply_comm {s u : State} (f : Frame) (rest : List Frame) (p : List Byte) (t : State)
    (e : u = t.withLink (s.takeFrame rest).link) (k : t.link = s.link) (m : t.micros = s.micros) :
    u.placeReply f p = t.answered f rest p := by
  subst e
  rw [State.takeFrame_eq]
  simp [State.placeReply, State.answered, State.modLink, State.withLink, k, m]

/-- The same for a whole request: what an offered frame with this code comes to. -/
theorem State.takeRequest_answered {s t : State} {f : Frame} {rest : List Frame} {code : Byte} {h : Handler} {p : List Byte}
    (o : s.offers f rest) (c : f.code = code) (e : h f.payload (s.takeFrame rest) = (t.withLink (s.takeFrame rest).link, p))
    (k : t.link = s.link) (m : t.micros = s.micros) : s.takeRequest code h = t.answered f rest p := by
  rw [State.takeRequest_of_offers h o c, e]
  exact State.placeReply_comm f rest p t rfl k m

end Sys2Proof.Machine
end

