-- ==== Sys2Proof/Laws/Store.lean ====
section
/-!
SUPPORT. Laws/Store.lean: what admission, the departure of a head, and a removal from the tail do to the axis, the pool, the reference
counts and the reports (R12, R15, R17, R21, R23).
-/

namespace Sys2Proof.Machine

/-! ## Counting the segments gated on a group -/

@[simp] theorem gatedOn_nil (g : GroupId) : gatedOn g [] = 0 := rfl

theorem gatedOn_cons (g : GroupId) (seg : Segment) (q : List Segment) :
    gatedOn g (seg :: q) = (if seg.gate = some g then 1 else 0) + gatedOn g q := by
  by_cases h : seg.gate = some g <;> simp [gatedOn, h, Nat.add_comm]

theorem gatedOn_append (g : GroupId) (p q : List Segment) : gatedOn g (p ++ q) = gatedOn g p + gatedOn g q := by
  simp [gatedOn]

theorem gatedOn_reverse (g : GroupId) (q : List Segment) : gatedOn g q.reverse = gatedOn g q := by simp [gatedOn]

theorem gatedOn_take_add_drop (g : GroupId) (k : Nat) (q : List Segment) :
    gatedOn g (q.take k) + gatedOn g (q.drop k) = gatedOn g q := by
  rw [← gatedOn_append, List.take_append_drop]

/-! ## Notifications (R23) -/

section
variable (s : State) (segs : List Segment)

@[simp] theorem State.axis_addRef (seg : Segment) (b : AxisId) : (s.addRef seg).axis b = s.axis b := by
  unfold State.addRef; cases seg.gate <;> rfl
@[simp] theorem State.poolFree_addRef (seg : Segment) : (s.addRef seg).poolFree = s.poolFree := by
  unfold State.addRef; cases seg.gate <;> rfl
@[simp] theorem State.reports_addRef (seg : Segment) : (s.addRef seg).reports = s.reports := by
  unfold State.addRef; cases seg.gate <;> rfl
@[simp] theorem State.axis_dropRef (seg : Segment) (b : AxisId) : (s.dropRef seg).axis b = s.axis b := by
  unfold State.dropRef; cases seg.gate <;> rfl
@[simp] theorem State.poolFree_dropRef (seg : Segment) : (s.dropRef seg).poolFree = s.poolFree := by
  unfold State.dropRef; cases seg.gate <;> rfl
@[simp] theorem State.reports_dropRef (seg : Segment) : (s.dropRef seg).reports = s.reports := by
  unfold State.dropRef; cases seg.gate <;> rfl
@[simp] theorem State.deviceTime_dropRef (seg : Segment) : (s.dropRef seg).deviceTime = s.deviceTime := by
  unfold State.dropRef; cases seg.gate <;> rfl

theorem State.group_addRef (seg : Segment) (g : GroupId) :
    (s.addRef seg).group g = { s.group g with refCount := (s.group g).refCount + gatedOn g [seg] } := by
  unfold State.addRef
  cases h : seg.gate with
  | none => simp [gatedOn_cons, h]
  | some k => by_cases e : g = k <;> simp [gatedOn_cons, h, e, eq_comm (a := k)]

theorem State.group_dropRef (seg : Segment) (g : GroupId) :
    (s.dropRef seg).group g = { s.group g with refCount := (s.group g).refCount - gatedOn g [seg] } := by
  unfold State.dropRef
  cases h : seg.gate with
  | none => simp [gatedOn_cons, h]
  | some k => by_cases e : g = k <;> simp [gatedOn_cons, h, e, eq_comm (a := k)]

@[simp] theorem State.axis_addRefs (b : AxisId) : (segs.foldl State.addRef s).axis b = s.axis b := by
  induction segs generalizing s with
  | nil => rfl
  | cons seg segs ih => simp [ih]
@[simp] theorem State.poolFree_addRefs : (segs.foldl State.addRef s).poolFree = s.poolFree := by
  induction segs generalizing s with
  | nil => rfl
  | cons seg segs ih => simp [ih]
@[simp] theorem State.reports_addRefs : (segs.foldl State.addRef s).reports = s.reports := by
  induction segs generalizing s with
  | nil => rfl
  | cons seg segs ih => simp [ih]
theorem State.group_addRefs (g : GroupId) :
    (segs.foldl State.addRef s).group g = { s.group g with refCount := (s.group g).refCount + gatedOn g segs } := by
  induction segs generalizing s with
  | nil => rfl
  | cons seg segs ih => simp [ih, State.group_addRef, gatedOn_cons g seg segs, gatedOn_cons g seg [], Nat.add_assoc]

@[simp] theorem State.axis_dropRefs (b : AxisId) : (segs.foldl State.dropRef s).axis b = s.axis b := by
  induction segs generalizing s with
  | nil => rfl
  | cons seg segs ih => simp [ih]
@[simp] theorem State.poolFree_dropRefs : (segs.foldl State.dropRef s).poolFree = s.poolFree := by
  induction segs generalizing s with
  | nil => rfl
  | cons seg segs ih => simp [ih]
@[simp] theorem State.reports_dropRefs : (segs.foldl State.dropRef s).reports = s.reports := by
  induction segs generalizing s with
  | nil => rfl
  | cons seg segs ih => simp [ih]
theorem State.group_dropRefs (g : GroupId) :
    (segs.foldl State.dropRef s).group g = { s.group g with refCount := (s.group g).refCount - gatedOn g segs } := by
  induction segs generalizing s with
  | nil => rfl
  | cons seg segs ih => simp [ih, State.group_dropRef, gatedOn_cons g seg segs, gatedOn_cons g seg [], Nat.sub_sub]

/-! ## Admission (R12) -/

variable (a : AxisId)

/-- An admission: the queue longer by the records, one slot taken for each, the references counted; nothing else. -/
theorem State.enqueue_spec :
    s.touches a (s.enqueue a segs)
      ∧ (s.enqueue a segs).axis a = { s.axis a with queue := (s.axis a).queue ++ segs }
      ∧ (s.enqueue a segs).poolFree = s.poolFree - segs.length
      ∧ (∀ g, (s.enqueue a segs).group g = { s.group g with refCount := (s.group g).refCount + gatedOn g segs })
      ∧ (s.enqueue a segs).reports = s.reports := by
  refine ⟨s.touches_enqueue a segs, ?_, ?_, fun g => ?_, ?_⟩ <;> simp [State.enqueue, State.group_addRefs]

/-! ## Removal from the tail (R15, R17) -/

/-- A removal from the tail: the first `keep` segments stay, the slots and references of the others go back, no report. -/
theorem State.dropTail_spec (keep : Nat) :
    s.touches a (s.dropTail a keep)
      ∧ (s.dropTail a keep).axis a = { s.axis a with queue := (s.axis a).queue.take keep }
      ∧ (s.dropTail a keep).poolFree = s.poolFree + ((s.axis a).depth - keep)
      ∧ (∀ g, (s.dropTail a keep).group g = s.groupLess ((s.axis a).queue.drop keep) g)
      ∧ (s.dropTail a keep).reports = s.reports := by
  refine ⟨s.touches_dropTail a keep, ?_, ?_, fun g => ?_, ?_⟩ <;>
    simp [State.dropTail, State.group_dropRefs, State.groupLess, gatedOn_reverse, Axis.depth, -List.foldl_reverse]

/-! ## The departure of a head (R21) -/

/-- Queue Low at the departure of one segment, in the words of the statements (R22). -/
theorem report?_queueLow? (x : Axis) (d : Nat) (h : x.depth = d + 1) :
    s.report? (queueLow? a x.threshold d) = s.setReports (s.reports.createAll s.deviceTime (x.lowAfterOne a)) := by
  unfold queueLow? Axis.lowAfterOne
  rw [h]
  by_cases t0 : x.threshold = 0
  · simp [t0, State.report?, ReportUnit.createAll, State.setReports]
  · by_cases e : d + 1 = x.threshold
    · simp [t0, e, State.report?, State.report, ReportUnit.createAll]
      rw [show d = x.threshold - 1 by omega]
    · simp [t0, e, State.report?, ReportUnit.createAll, State.setReports]

/-- The head leaves: the queue is its tail and no segment is active, one slot and its reference go back, Queue Low if crossed. -/
theorem State.removeHead_spec {seg : Segment} {q : List Segment} (h : (s.axis a).queue = seg :: q) :
    s.touches a (s.removeHead a)
      ∧ (s.removeHead a).axis a = { s.axis a with queue := q, ctx := none }
      ∧ (s.removeHead a).poolFree = s.poolFree + 1
      ∧ (∀ g, (s.removeHead a).group g = s.groupLess [seg] g)
      ∧ (s.removeHead a).reports = s.reports.createAll s.deviceTime ((s.axis a).lowAfterOne a) := by
  have e : s.removeHead a =
      ((((s.modAxis a fun x => { x with queue := q, ctx := none }).setPool (s.poolFree + 1)).dropRef seg).report?
        (queueLow? a (s.axis a).threshold q.length)) := by
    unfold State.removeHead
    rw [h]
    simp
  refine ⟨s.touches_removeHead a, ?_, ?_, fun g => ?_, ?_⟩ <;> rw [e, report?_queueLow? _ a (s.axis a) q.length (by simp [Axis.depth, h])] <;>
    simp [State.group_dropRef, State.groupLess]

end

/-! ## What one axis's change leaves is one state -/

theorem State.ext_axis {v w : Vector Axis 4} (h : ∀ a : AxisId, v[a.val] = w[a.val]) : v = w :=
  Vector.ext fun i k => h ⟨i, k⟩

theorem State.ext_group {v w : Vector Group 8} (h : ∀ g : GroupId, v[g.val] = w[g.val]) : v = w :=
  Vector.ext fun i k => h ⟨i, k⟩

/-- There is a state that `changesTo` describes. -/
theorem State.changesTo_exists (s : State) (a : AxisId) (y : Axis) (reports : List ReportBody) (gone : List Segment) :
    ∃ t, s.changesTo a y reports gone t :=
  ⟨{ s.setAxis a y with
      groups := Vector.ofFn (s.groupLess gone), poolFree := s.poolFree + gone.length
      reports := s.reports.createAll s.deviceTime reports },
    by simp [State.axis, State.setAxis],
    fun b ne => by
      simp only [State.axis, State.setAxis]
      exact Vector.getElem_set_ne _ _ (fun e => ne (Fin.ext e.symm)),
    rfl, fun g => by simp [State.group], rfl, rfl⟩

/-- There is one state that `changesTo` describes. -/
theorem State.changesTo.unique {s t t' : State} {a : AxisId} {y : Axis} {reports : List ReportBody} {gone : List Segment}
    (h : s.changesTo a y reports gone t) (k : s.changesTo a y reports gone t') : t = t' := by
  have axes : t.axes = t'.axes := State.ext_axis fun b => by
    by_cases e : b = a
    · subst e
      exact h.1.trans k.1.symm
    · exact (h.2.1 b e).trans (k.2.1 b e).symm
  have groups : t.groups = t'.groups := State.ext_group fun g => (h.2.2.2.1 g).trans (k.2.2.2.1 g).symm
  rw [h.2.2.2.2.2, k.2.2.2.2.2, axes, groups, h.2.2.1, k.2.2.1, h.2.2.2.2.1, k.2.2.2.2.1]

end Sys2Proof.Machine
end

