-- ==== Sys2Proof/Laws/Motion.lean ====
section
/-!
SUPPORT. Laws/Motion.lean: the fuel of one event is enough (log 27): every task takes away from the measure that the fuel is, so a list
of tasks is always worked off to its end, and more fuel changes nothing.
-/

namespace Sys2Proof.Machine

/-! ## Waiting segments never become more -/

/-- Axis `a` has no more waiting segments in `t` than in `s`. -/
def State.lightens (s : State) (a : AxisId) (t : State) : Prop := (t.axis a).waiting ≤ (s.axis a).waiting

theorem State.lightens.trans {s t u : State} {a : AxisId} (h : s.lightens a t) (k : t.lightens a u) : s.lightens a u :=
  Nat.le_trans k h

theorem State.lightens_of_axis {s t : State} {a : AxisId} (h : t.axis a = s.axis a) : s.lightens a t := by
  unfold State.lightens; rw [h]

theorem State.lightens_modAxis (s : State) (a : AxisId) (f : Axis → Axis) (h : (f (s.axis a)).waiting ≤ (s.axis a).waiting) :
    s.lightens a (s.modAxis a f) := by simpa [State.lightens] using h

/-- The same queue and, if a segment was active, an active segment. -/
theorem Axis.waiting_le {x y : Axis} (q : y.queue = x.queue) (c : x.ctx.isSome = true → y.ctx.isSome = true) :
    y.waiting ≤ x.waiting := by
  unfold Axis.waiting
  rw [q]
  by_cases h : x.ctx.isSome = true
  · simp [h, c h]
  · simp only [h]; split <;> simp

theorem State.lightens_report? (s : State) (a : AxisId) (b : Option ReportBody) : s.lightens a (s.report? b) :=
  State.lightens_of_axis (by simp)

theorem State.lightens_report (s : State) (a : AxisId) (b : ReportBody) : s.lightens a (s.report b) :=
  State.lightens_of_axis (by simp)

theorem State.lightens_removeHead (s : State) (a : AxisId) (h : (s.axis a).ctx.isSome = true) : s.lightens a (s.removeHead a) := by
  cases q : (s.axis a).queue with
  | nil => simp [State.lightens, State.removeHead, q, Axis.waiting]
  | cons seg rest =>
    unfold State.lightens
    rw [(State.removeHead_spec s a q).2.1]
    simp [Axis.waiting, h, q]

theorem State.lightens_dropTail (s : State) (a : AxisId) (keep : Nat) : s.lightens a (s.dropTail a keep) := by
  unfold State.lightens
  rw [(State.dropTail_spec s a keep).2.1]
  unfold Axis.waiting
  simp only [List.length_take]
  split <;> omega

theorem State.lightens_withdraw (s : State) (a : AxisId) : s.lightens a (s.withdraw a) := by
  apply State.lightens_of_axis
  unfold State.withdraw
  split
  · cases (s.axis a).headGate <;> rfl
  · rfl

theorem State.lightens_completeActive (s : State) (a : AxisId) : s.lightens a (s.completeActive a) := by
  unfold State.completeActive
  cases h : (s.axis a).ctx with
  | none => exact State.lightens_of_axis rfl
  | some c => exact (s.lightens_report? a _).trans (State.lightens_removeHead _ a (by simp [h]))

theorem State.lightens_abortActive (s : State) (a : AxisId) (r : AbortReason) : s.lightens a (s.abortActive a r) := by
  unfold State.abortActive
  cases h : (s.axis a).ctx with
  | none => exact State.lightens_of_axis rfl
  | some c => exact (State.lightens_of_axis (by simp)).trans (State.lightens_removeHead _ a (by simp [h]))

theorem State.lightens_enterHeld (s : State) (a : AxisId) : s.lightens a (s.enterHeld a) :=
  s.lightens_modAxis a _ (Nat.le_refl _)

theorem State.lightens_reachReady (s : State) (a : AxisId) : s.lightens a (s.reachReady a) := by
  unfold State.reachReady
  have h := ((s.lightens_modAxis a (fun x => { x with rate := 0 }) (Nat.le_refl _)).trans
    (State.lightens_abortActive _ a .stopped)).trans
    (State.lightens_modAxis _ a (fun x => { x with st := .ready, ena := true }) (Nat.le_refl _))
  dsimp only
  split
  · exact (h.trans (State.lightens_dropTail _ a 0)).trans
      (State.lightens_modAxis _ a (fun x => { x with owedFlush := false }) (Nat.le_refl _))
  · exact h

theorem State.lightens_enterFault (s : State) (a : AxisId) (ena : Bool) : s.lightens a (s.enterFault a ena) :=
  ((s.lightens_modAxis a (fun x => { x with rate := 0 }) (Nat.le_refl _)).trans (State.lightens_abortActive _ a .fault)).trans
    (State.lightens_modAxis _ a (fun x => { x with st := .fault, ena := ena, owedFlush := false }) (Nat.le_refl _))

theorem State.lightens_holdBrakeDone (s : State) (a : AxisId) (c : Ctx) : s.lightens a (s.holdBrakeDone a c) := by
  unfold State.holdBrakeDone
  split
  · exact (s.lightens_completeActive a).trans (State.lightens_enterHeld _ a)
  · exact (s.lightens_modAxis a _ (Axis.waiting_le rfl fun _ => rfl)).trans (State.lightens_enterHeld _ a)

theorem State.lightens_settleBrake (s : State) (a : AxisId) : s.lightens a (s.settleBrake a) := by
  have same : s.lightens a s := Nat.le_refl _
  have held : s.lightens a ((s.completeActive a).enterHeld a) :=
    State.lightens.trans (s.lightens_completeActive a) ((s.completeActive a).lightens_enterHeld a)
  have ready : s.lightens a ((s.completeActive a).reachReady a) :=
    State.lightens.trans (s.lightens_completeActive a) ((s.completeActive a).lightens_reachReady a)
  have fault : s.lightens a ((s.completeActive a).enterFault a (s.axis a).enaAfterBrake) :=
    State.lightens.trans (s.lightens_completeActive a) ((s.completeActive a).lightens_enterFault a _)
  unfold State.settleBrake
  cases (s.axis a).ctx with
  | none => exact same
  | some c =>
    dsimp only
    cases c.brakeEnd with
    | running => exact same
    | exhausted => cases k : (s.axis a).st <;> first | with_reducible exact same | with_reducible assumption
    | completed =>
      cases (s.axis a).st <;>
        first
        | with_reducible exact same
        | with_reducible exact s.lightens_holdBrakeDone a c
        | with_reducible exact s.lightens_reachReady a
        | with_reducible exact s.lightens_enterFault a _

theorem State.lightens_raiseCause (s : State) (a : AxisId) (cause : Cause) : s.lightens a (s.raiseCause a cause) := by
  have first : s.lightens a (s.firstCause a cause) := by
    unfold State.firstCause
    have h : s.lightens a ((s.modAxis a fun y => { y with faultRecord := some (s.faultRecordOf a cause) }).report
        (.faultRaised a cause (s.axis a).position (s.axis a).encoder.position (s.axis a).fe ((s.axis a).ctx.map (·.seg.tag)))) :=
      (s.lightens_modAxis a _ (Nat.le_refl _)).trans (State.lightens_report _ a _)
    dsimp only
    cases (s.axis a).protection.policy cause with
    | halt => exact (h.trans (State.lightens_withdraw _ a)).trans (State.lightens_enterFault _ a false)
    | brake =>
      cases k : (s.axis a).stepping
      · exact (h.trans (State.lightens_withdraw _ a)).trans (State.lightens_enterFault _ a _)
      · exact (h.trans (State.lightens_modAxis _ a Axis.enterFaultBrake
          (Axis.waiting_le rfl (by simp [Axis.enterFaultBrake])))).trans (State.lightens_settleBrake _ a)
  have later : s.lightens a (s.laterCause a cause) := by
    unfold State.laterCause
    have h := s.lightens_modAxis a (fun x => { x with faultRecord := x.faultRecord.map (FaultRecord.add cause) }) (Nat.le_refl _)
    dsimp only
    split
    · exact h.trans (State.lightens_enterFault _ a false)
    · exact h
  unfold State.raiseCause
  cases (s.axis a).st <;>
    first
    | exact first
    | exact later
    | exact State.lightens_of_axis rfl

theorem State.lightens_evaluateFollow (s : State) (a : AxisId) : s.lightens a (s.evaluateFollow a) := by
  unfold State.evaluateFollow
  split
  · exact s.lightens_raiseCause a _
  · exact State.lightens_of_axis rfl

/-! ## The measure -/

/-- What a task leaves behind weighs less than it did: its own axis no heavier, and the tasks it leaves lighter than it was. -/
def State.spends (s : State) (a : AxisId) (w : Nat) (r : State × List Task) : Prop :=
  (∀ b, b ≠ a → r.1.axis b = s.axis b) ∧ 6 * (r.1.axis a).waiting + (r.2.map Task.weight).sum ≤ 6 * (s.axis a).waiting + w

theorem State.spends_of {s t : State} {a : AxisId} {w : Nat} {ts : List Task} (h : s.touches a t) (l : s.lightens a t)
    (k : (ts.map Task.weight).sum ≤ w) : s.spends a w (t, ts) :=
  ⟨h.2, by unfold State.lightens at l; dsimp only; omega⟩

theorem State.spends_stepEffects (s : State) (a : AxisId) : s.spends a 5 (s.stepEffects a) := by
  have rest : s.spends a 5 (s.completeAtRest a) :=
    State.spends_of (s.touches_completeAtRest a)
      ((s.lightens_completeActive a).trans (State.lightens_modAxis _ a (fun x => { x with rate := 0 }) (Nat.le_refl _)))
      (by simp [Task.weight])
  have none : s.spends a 5 (s, []) := State.spends_of (.refl s a) (State.lightens_of_axis rfl) (by simp)
  unfold State.stepEffects
  cases (s.axis a).ctx with
  | none => exact none
  | some c =>
    dsimp only
    split
    · split
      · cases c.brakeEnd with
        | running => exact none
        | exhausted | completed => exact rest
      · split
        · cases c.seg.body with
          | move _ _ e _ =>
            refine ⟨(s.touches_completeMove a c e).2, ?_⟩
            have h : s.lightens a (s.completeMove a c e).1 := by
              refine (s.lightens_completeActive a).trans (State.lightens_of_axis ?_)
              unfold State.completeMove
              dsimp only
              split <;> rfl
            unfold State.lightens at h
            have k : ((s.completeMove a c e).2.map Task.weight).sum = 5 := by simp [State.completeMove, Task.weight]
            dsimp only
            omega
          | seek =>
            exact State.spends_of ((s.touches_completeActive a).trans (State.touches_enterHeld _ a))
              ((s.lightens_completeActive a).trans (State.lightens_enterHeld _ a)) (by simp)
          | dwell | mark => exact none
        · exact none
    · exact State.spends_of (s.touches_settleBrake a) (s.lightens_settleBrake a) (by simp)

theorem State.spends.after {s t : State} {a : AxisId} {w : Nat} {r : State × List Task} (h : s.touches a t) (l : s.lightens a t)
    (k : t.spends a w r) : s.spends a w r :=
  ⟨fun b n => (k.1 b n).trans (h.2 b n), by have := k.2; unfold State.lightens at l; omega⟩

/-- The end of a pulse changes the outputs alone. -/
theorem Axis.endPulseIfOver_frame (now : Nat) (x : Axis) :
    x.endPulseIfOver now = { x with output := (x.endPulseIfOver now).output } := by
  unfold Axis.endPulseIfOver
  split <;> rfl

theorem State.spends_issueStep (s : State) (a : AxisId) : s.spends a 5 (s.issueStep a) := by
  unfold State.issueStep
  cases h : (s.axis a).ctx with
  | none => exact State.spends_of (.refl s a) (State.lightens_of_axis rfl) (by simp)
  | some c =>
    have q : (Axis.issueStep s.clock c (s.axis a)).queue = (s.axis a).queue := by
      unfold Axis.issueStep; rw [Axis.endPulseIfOver_frame]; rfl
    exact State.spends.after ((s.touches_modAxis a _).trans (State.touches_evaluateFollow _ a))
      ((s.lightens_modAxis a _ (Axis.waiting_le q fun _ => rfl)).trans (State.lightens_evaluateFollow _ a))
      (State.spends_stepEffects _ a)

theorem State.spends_attemptStep (s : State) (a : AxisId) : s.spends a 5 (s.attemptStep a) := by
  unfold State.attemptStep
  cases h : (s.axis a).ctx with
  | none => exact State.spends_of (.refl s a) (State.lightens_of_axis rfl) (by simp)
  | some c =>
    dsimp only
    have t := s.touches_modAxis a fun x => { x with ctx := some { c with delayed := none } }
    have l := s.lightens_modAxis a (fun x => { x with ctx := some { c with delayed := none } }) (Axis.waiting_le rfl fun _ => rfl)
    split
    · have t' := t.trans (State.touches_raiseCause _ a (limitOf c.seg.body.dir).2)
      have l' := l.trans (State.lightens_raiseCause _ a (limitOf c.seg.body.dir).2)
      split
      · exact State.spends.after t' l' (State.spends_issueStep _ a)
      · exact State.spends_of t' l' (by simp)
    · exact State.spends.after t l (State.spends_issueStep _ a)

theorem State.spends_stepFallsDue (s : State) (a : AxisId) : s.spends a 5 (s.stepFallsDue a) := by
  unfold State.stepFallsDue
  dsimp only
  have f : ((s.axis a).endPulseIfOver s.clock).queue = (s.axis a).queue
      ∧ ((s.axis a).endPulseIfOver s.clock).ctx.isSome = (s.axis a).ctx.isSome := by
    rw [Axis.endPulseIfOver_frame]; exact ⟨rfl, rfl⟩
  generalize (s.axis a).endPulseIfOver s.clock = x at f
  cases h : x.ctx with
  | none => exact State.spends_of (.refl s a) (State.lightens_of_axis rfl) (by simp)
  | some c =>
    dsimp only
    have lighter : ∀ y : Axis, y.queue = x.queue → y.ctx.isSome = true → s.lightens a (s.setAxis a y) := by
      intro y q c
      unfold State.lightens
      rw [State.axis_setAxis_self]
      exact Axis.waiting_le (q.trans f.1) fun _ => c
    split
    · split
      · exact State.spends.after (s.touches_setAxis a _) (lighter (x.turnDir s.clock c.seg.body.dir) rfl (by simp [Axis.turnDir, h])) (State.spends_attemptStep _ a)
      · exact State.spends_of (s.touches_setAxis a _) (lighter _ rfl rfl) (by simp)
    · exact State.spends_of (.refl s a) (State.lightens_of_axis rfl) (by simp)

theorem State.spends_activate (s : State) (a : AxisId) (carry : Option Nat) : s.spends a 0 (s.activate a carry) := by
  unfold State.activate
  cases m : s.mayBegin a with
  | false => exact State.spends_of (.refl s a) (State.lightens_of_axis rfl) (by simp)
  | true =>
    have idle : (s.axis a).ctx = none := by
      simp [State.mayBegin] at m; exact m.1.1
    simp only [if_true]
    cases q : (s.axis a).queue with
    | nil => exact State.spends_of (.refl s a) (State.lightens_of_axis rfl) (by simp)
    | cons seg rest =>
      dsimp only
      generalize (if (s.axis a).rate = 0 then none else carry) = carry'
      generalize newCtx seg carry' = k
      have t := s.touches_modAxis a fun x => { x with st := .run, ctx := some k }
      have w : ((s.modAxis a fun x => { x with st := .run, ctx := some k }).axis a).waiting + 1 = (s.axis a).waiting := by
        simp [Axis.waiting, q, idle]
      cases seg.body with
      | move | seek =>
        refine ⟨t.2, ?_⟩
        dsimp only
        cases carry' <;> simp [Task.weight] <;> simp at w <;> omega
      | dwell =>
        refine ⟨(t.trans (State.touches_modAxis _ a fun x => { x with rate := 0 })).2, ?_⟩
        have e := State.lightens_modAxis (s.modAxis a fun x => { x with st := .run, ctx := some k }) a
          (fun x => { x with rate := 0 }) (Nat.le_refl _)
        unfold State.lightens at e
        simp only [List.map_nil, List.sum_nil]
        omega
      | mark =>
        refine ⟨(t.trans (State.touches_completeActive _ a)).2, ?_⟩
        have e := State.lightens_completeActive (s.modAxis a fun x => { x with st := .run, ctx := some k }) a
        unfold State.lightens at e
        simp [Task.weight] at e w ⊢
        omega

/-- The fuel of a state and tasks, from the four axes. -/
theorem State.fuel_spends {s : State} {a : AxisId} {w : Nat} {r : State × List Task} {t : Task} (ts : List Task)
    (h : s.spends a w r) (k : w < t.weight) : r.1.fuel (r.2 ++ ts) < s.fuel (t :: ts) := by
  obtain ⟨same, less⟩ := h
  have e : ∀ b, b ≠ a → (r.1.axis b).waiting = (s.axis b).waiting := fun b n => by rw [same b n]
  unfold State.fuel
  simp only [List.map_append, List.map_cons, List.sum_append, List.sum_cons]
  have e0 := e 0; have e1 := e 1; have e2 := e 2; have e3 := e 3
  fin_cases a <;> simp at e0 e1 e2 e3 less ⊢ <;> omega

theorem length_axesOf (set : BitVec 4) : (axesOf set).length ≤ 4 := List.length_filter_le _ _

theorem State.waiting_modAxis (s : State) (a : AxisId) {f : Axis → Axis} (h : ∀ x, (f x).waiting = x.waiting) (b : AxisId) :
    ((s.modAxis a f).axis b).waiting = (s.axis b).waiting := by
  rw [State.axis_modAxis]
  split
  · rename_i e; rw [h, e]
  · rfl

/-- A release changes no axis and leaves at most four heads to activate. -/
theorem State.release_light (s : State) (g : GroupId) :
    (∀ b, (s.release g).1.axis b = s.axis b) ∧ ((s.release g).2.map Task.weight).sum ≤ 4 := by
  refine ⟨fun b => ?_, ?_⟩
  · unfold State.release
    dsimp only
    split <;> rfl
  · have := length_axesOf (s.group g).members
    simpa [State.release, Task.weight, Function.comp_def] using this

/-- An arrival changes no waiting segment and leaves at most four heads to activate. -/
theorem State.arrive_light (s : State) (a : AxisId) (g : GroupId) :
    (∀ b, ((s.arrive a g).1.axis b).waiting = (s.axis b).waiting) ∧ ((s.arrive a g).2.map Task.weight).sum ≤ 4 := by
  unfold State.arrive
  dsimp only
  split
  · refine ⟨fun b => ?_, (State.release_light _ g).2⟩
    rw [(State.release_light _ g).1 b]
    exact State.waiting_modAxis (s.setGroup g _) a (f := fun y => { y with rate := 0 }) (fun _ => rfl) b
  · refine ⟨fun b => ?_, by simp⟩
    rw [State.waiting_modAxis _ a (f := fun y => { y with st := .gate }) fun _ => rfl]
    exact State.waiting_modAxis (s.setGroup g _) a (f := fun y => { y with rate := 0 }) (fun _ => rfl) b

/-- Every task takes away from the fuel (log 27). -/
theorem State.fuel_runTask (s : State) (t : Task) (ts : List Task) :
    (s.runTask t).1.fuel ((s.runTask t).2 ++ ts) < s.fuel (t :: ts) := by
  cases t with
  | activate a carry => exact State.fuel_spends ts (s.spends_activate a carry) (by simp [Task.weight])
  | stepNow a => exact State.fuel_spends ts (s.spends_stepFallsDue a) (by simp [Task.weight])
  | beginHead a carry =>
    have key : ∀ r : State × List Task, (∀ b, (r.1.axis b).waiting = (s.axis b).waiting) →
        (r.2.map Task.weight).sum ≤ 4 → r.1.fuel (r.2 ++ ts) < s.fuel (.beginHead a carry :: ts) := by
      intro r e k
      unfold State.fuel
      simp only [List.map_append, List.map_cons, List.sum_append, List.sum_cons, e, Task.weight]
      omega
    show (s.beginHead a carry).1.fuel _ < _
    apply key (s.beginHead a carry)
    · unfold State.beginHead
      split
      · cases (s.axis a).queue with
        | nil => exact s.waiting_modAxis a fun _ => rfl
        | cons seg q =>
          dsimp only
          cases seg.gate with
          | none => exact fun _ => rfl
          | some g => exact fun b => (s.arrive_light a g).1 b
      · exact fun _ => rfl
    · unfold State.beginHead
      split
      · cases (s.axis a).queue with
        | nil => simp
        | cons seg q =>
          dsimp only
          cases seg.gate with
          | none => simp [Task.weight]
          | some g => exact (s.arrive_light a g).2
      · simp

/-- More fuel than the measure changes nothing: the tasks have come to their end. -/
theorem State.runTasks_of_fuel_le {n : Nat} {ts : List Task} {s : State} (h : s.fuel ts ≤ n) :
    State.runTasks n ts s = s.settle ts := by
  have key : ∀ m n ts s, State.fuel s ts ≤ m → State.fuel s ts ≤ n → State.runTasks n ts s = State.runTasks m ts s := by
    intro m
    induction m with
    | zero =>
      intro n ts s hm _
      cases ts with
      | nil => cases n <;> rfl
      | cons t ts => have := s.fuel_runTask t ts; omega
    | succ m ih =>
      intro n ts s hm hn
      cases ts with
      | nil => cases n <;> rfl
      | cons t ts =>
        have d := s.fuel_runTask t ts
        cases n with
        | zero => omega
        | succ n => exact ih n _ _ (by omega) (by omega)
  exact key _ _ _ _ (Nat.le_refl _) h

/-- No task left. -/
@[simp] theorem State.settle_nil (s : State) : s.settle [] = s := by
  unfold State.settle; cases s.fuel [] <;> rfl

/-- The first task of a list, then what it leaves and the rest. -/
theorem State.settle_cons (s : State) (t : Task) (ts : List Task) :
    s.settle (t :: ts) = (s.runTask t).1.settle ((s.runTask t).2 ++ ts) := by
  have d := s.fuel_runTask t ts
  have e : s.settle (t :: ts) = State.runTasks (s.fuel (t :: ts) - 1) ((s.runTask t).2 ++ ts) (s.runTask t).1 := by
    unfold State.settle
    obtain ⟨m, k⟩ : ∃ m, s.fuel (t :: ts) = m + 1 := ⟨_, (Nat.sub_add_cancel (by omega)).symm⟩
    rw [k]; rfl
  rw [e]
  exact State.runTasks_of_fuel_le (by omega)

/-- An invariant of states and the tasks still to do, kept by each task, holds at the end with no task left. -/
theorem State.settle_induction {P : State → List Task → Prop}
    (keep : ∀ s t ts, P s (t :: ts) → P (s.runTask t).1 ((s.runTask t).2 ++ ts)) (s : State) (ts : List Task) (h : P s ts) :
    P (s.settle ts) [] := by
  have key : ∀ n s ts, State.fuel s ts ≤ n → P s ts → P (s.settle ts) [] := by
    intro n
    induction n with
    | zero =>
      intro s ts l h
      cases ts with
      | nil => simpa using h
      | cons t ts => have := s.fuel_runTask t ts; omega
    | succ n ih =>
      intro s ts l h
      cases ts with
      | nil => simpa using h
      | cons t ts =>
        rw [State.settle_cons]
        exact ih _ _ (by have := s.fuel_runTask t ts; omega) (keep s t ts h)
  exact key _ s ts (Nat.le_refl _) h

end Sys2Proof.Machine
end

