-- ==== Sys2Proof/Laws/Reports.lean ====
section
/-!
SUPPORT. Laws/Reports.lean: the three placements of a new report (R139), the go-back (R143), and what neither of them changes.
-/

namespace Sys2Proof.Machine

/-! ## Placement (R139) -/

/-- Everything that the creation of a report can do: appended, counted into the Overflow entry, or the Overflow entry appended. -/
theorem ReportUnit.create_cases (r : ReportUnit) (time : Word32) (body : ReportBody) :
    ((∃ e ∈ r.queue, e.body.isOverflow = true) ∧
        r.create time body = { r with queue := r.queue.map (Entry.countLost body) })
      ∨ ((∀ e ∈ r.queue, e.body.isOverflow = false) ∧ r.queue.length < 31 ∧ r.create time body = r.append time body)
      ∨ ((∀ e ∈ r.queue, e.body.isOverflow = false) ∧ 31 ≤ r.queue.length ∧
        r.create time body = r.append time (.overflow 1 body.kindBit)) := by
  unfold ReportUnit.create
  by_cases o : r.queue.any (·.body.isOverflow) = true
  · exact .inl ⟨by simpa using o, by simp [o]⟩
  · have n : ∀ e ∈ r.queue, e.body.isOverflow = false := by simpa using o
    by_cases l : r.queue.length < 31
    · exact .inr (.inl ⟨n, l, by simp [o, Config.reportEntries, l]⟩)
    · exact .inr (.inr ⟨n, by omega, by simp [o, Config.reportEntries, l]⟩)

/-- Counting keeps the sequence, the time and both marks of every entry, and which entry is the Overflow. -/
theorem Entry.countLost_frame (body : ReportBody) (e : Entry) :
    (e.countLost body).seq = e.seq ∧ (e.countLost body).time = e.time ∧ (e.countLost body).inFlight = e.inFlight
      ∧ (e.countLost body).onceSent = e.onceSent ∧ (e.countLost body).body.isOverflow = e.body.isOverflow := by
  unfold Entry.countLost
  cases h : e.body <;> simp [ReportBody.isOverflow, h]

section
variable (r : ReportUnit) (time : Word32) (body : ReportBody)

@[simp] theorem ReportUnit.streaming_create : (r.create time body).streaming = r.streaming := by
  unfold ReportUnit.create ReportUnit.append; split_ifs <;> rfl
@[simp] theorem ReportUnit.window_create : (r.create time body).window = r.window := by
  unfold ReportUnit.create ReportUnit.append; split_ifs <;> rfl
@[simp] theorem ReportUnit.timeout_create : (r.create time body).timeout = r.timeout := by
  unfold ReportUnit.create ReportUnit.append; split_ifs <;> rfl
@[simp] theorem ReportUnit.timer_create : (r.create time body).timer = r.timer := by
  unfold ReportUnit.create ReportUnit.append; split_ifs <;> rfl

/-- What every created report keeps, a run of created reports keeps. -/
theorem ReportUnit.createAll_keeps {P : ReportUnit → Prop} (keep : ∀ r body, P r → P (r.create time body)) (bodies : List ReportBody)
    (h : P r) : P (r.createAll time bodies) := by
  induction bodies generalizing r with
  | nil => exact h
  | cons b bodies ih => exact ih _ (keep r b h)

@[simp] theorem ReportUnit.createAll_nil : r.createAll time [] = r := rfl
@[simp] theorem ReportUnit.createAll_cons (bodies : List ReportBody) :
    r.createAll time (body :: bodies) = (r.create time body).createAll time bodies := rfl
theorem ReportUnit.createAll_append (p q : List ReportBody) :
    r.createAll time (p ++ q) = (r.createAll time p).createAll time q := by simp [ReportUnit.createAll]

end

/-! ## The go-back (R143) -/

@[simp] theorem ReportUnit.length_goBack (r : ReportUnit) : r.goBack.queue.length = r.queue.length := by simp [ReportUnit.goBack]
@[simp] theorem ReportUnit.nextSeq_goBack (r : ReportUnit) : r.goBack.nextSeq = r.nextSeq := rfl
@[simp] theorem ReportUnit.window_goBack (r : ReportUnit) : r.goBack.window = r.window := rfl

/-- After a go-back no entry is in flight. -/
theorem ReportUnit.inFlight_goBack (r : ReportUnit) : ∀ e ∈ r.goBack.queue, e.inFlight = false := by
  intro e h
  obtain ⟨x, -, rfl⟩ := List.mem_map.mp h
  rfl

end Sys2Proof.Machine
end

