-- ==== Sys2Proof/Laws/Timing.lean ====
section
/-!
SUPPORT. Laws/Timing.lean: when an event stands in a list of due events, and when the time of a timed one has come.
-/

namespace Sys2Proof.Machine

@[simp] theorem mem_dueIf {b : Bool} {c d : Instr} : d ∈ dueIf b c ↔ b = true ∧ d = c := by
  cases b <;> simp [dueIf]

@[simp] theorem reached_iff {now : Nat} {t : Option Nat} : reached now t = true ↔ ∃ q, t = some q ∧ q ≤ now := by
  cases t <;> simp [reached]

/-- A due event is one of the link, one of the shared blocks, or one of an axis. -/
theorem State.mem_dueEvents {s : State} {c : Instr} :
    c ∈ s.dueEvents ↔ c ∈ s.linkDue ∨ c ∈ s.sharedDue ∨ ∃ a, c ∈ s.axisDue a := by
  unfold State.dueEvents
  simp only [List.mem_append, List.mem_flatMap, or_assoc]
  refine or_congr_right (or_congr_right ⟨fun ⟨a, _, h⟩ => ⟨a, h⟩, fun ⟨a, h⟩ => ⟨a, ?_, h⟩⟩)
  fin_cases a <;> simp

end Sys2Proof.Machine
end

