-- ==== Sys2Proof/Tests/Slice0.lean ====
section
/-!
SUPPORT. Tests/Slice0.lean: small checks of the model, and for every statement with hypotheses a concrete state and operands that
meet them together, clause by clause (the theorems test_meets_<statement>).
-/

namespace Sys2Proof.Tests

open Sys2Proof Sys2Proof.Machine

/-! ## Small states -/

/-- A frame with sequence 7. -/
def fr (code : Byte) (p : List Byte) : Frame := ⟨7, code, p⟩

/-- `s` with one frame in the receive buffer. -/
def ask (s : State) (code : Byte) (p : List Byte) : State := { s with link := { s.link with rxBuffer := [fr code p] } }

/-- An axis in OFF. -/
def off : Axis := .reset .atFirstReset

/-- The state after reset with axis 0 replaced. -/
def on0 (x : Axis) : State := State.reset.setAxis 0 x

/-- A request to a block whose axis 0 is `x`. -/
def asks (x : Axis) (code : Byte) (p : List Byte) : State := ask (on0 x) code p

/-- Group 0 with two members, axis 0 and axis 1. -/
def pairGroup (arrived : BitVec 4) (timer : Option Nat) : Group := ⟨3, arrived, 2, 5, 10, true, timer⟩

def move (n : Int) : Segment := ⟨0x1234, none, .move n 1000 2000 true⟩
def dwell : Segment := ⟨1, none, .dwell 1000 true⟩
def seek : Segment := ⟨2, none, .seek .positive 1000 50 .home .toActive⟩
def mark : Segment := ⟨3, none, .mark⟩
def gated : Segment := ⟨4, some 0, .dwell 10 false⟩

/-- A context with three steps done. -/
def going (seg : Segment) (ph : Phase) (b : Option Brake) : Ctx :=
  ⟨seg, ph, 3, 0, some 0, b, 0, none, if seg.body.isSeek then some .opened else none, none, false⟩

/-- An axis whose head is active, at 1000 steps/s. -/
def active (st : AxisState) (c : Ctx) : Axis := { off with st := st, queue := [c.seg], ctx := some c, rate := 1000 }

/-- `s` at a later clock. -/
def atClock (s : State) (q : Nat) : State := { s with clock := q }

/-- The fields of an answer that a test looks at. -/
def status (o : Host.Outcome State Fault Refusal) : Option (List Byte) :=
  match o with
  | .next t => t.link.replySlot.map (·.reply.payload)
  | .fault _ | .refused _ => none

/-- A line whose change to `level` is timed until the clock 16. -/
def timed (level : Bool) : InputLine := ⟨level, !level, some 16⟩

/-! ## WellFormed -/

theorem test_wellFormed_accepts_bad_lengths : (Instr.lengthError 2).wellFormed = true ∧ (Instr.lengthError 251).wellFormed = true := by
  decide

theorem test_wellFormed_refuses_good_lengths :
    (Instr.lengthError 3).wellFormed = false ∧ (Instr.lengthError 250).wellFormed = false := by decide

theorem test_decode_no_word_spells_a_command : decodeTableWord 8 0x96 = none := by decide

/-! ## The line -/

theorem test_crc_check_value : crc16 [0x31, 0x32, 0x33, 0x34, 0x35, 0x36, 0x37, 0x38, 0x39] = 0x29B1#16 := by
  decide +kernel

theorem test_request_table_has_every_code : requestTable.map (·.1) = requestCodes := by decide

theorem test_report_kinds_in_order :
    (ReportBody.resetNotice .powerOn 1).kindCode = 1 ∧ (ReportBody.overflow 1 0).kindCode = 12
      ∧ (ReportBody.segmentDone 0 0 0).kindBit = 4 := by decide

theorem test_move_record_bytes :
    (Segment.bytes ⟨0x1234, some 5, .move (-2) 1000 250000 true⟩) =
      [1, 0x17, 0x34, 0x12, 0xFE, 0xFF, 0xFF, 0xE8, 0x03, 0, 0x90, 0xD0, 0x03, 0] := by decide

/-! ## Reset -/

theorem test_reset_is_power_on : execPowerOn { State.reset with power := .off } = .next State.reset := by rfl

theorem test_reset_notice_is_due : State.reset.dueEvents = [.reportFrameBegin] := by decide

/-- A step is due at its time and not before (R37). -/
theorem test_step_is_due_at_its_time :
    (on0 (active .run (going (move 9) .stepping none))).dueEvents = [.reportFrameBegin]
    ∧ (atClock (on0 (active .run (going (move 9) .stepping none))) 2908).dueEvents = [.reportFrameBegin, .stepDue 0] := by
  decide +kernel

theorem test_nothing_loaded_by_a_word : State.reset.withFetchWord 8 0x96 = State.reset := by rfl

/-! ## Hypotheses that are met: the step, arithmetic, the line -/

theorem test_meets_StepRunsTheFrontCommand : { State.reset with pending := [.powerOn, .tripChange] }.pending = [.powerOn, .tripChange] := by
  decide

/-- No supply; a report on its way and nothing due; one event due; two events due. -/
theorem test_meets_IdleBlockActsOfItself :
    (State.reset.pending = [] ∧ { State.reset with power := .off }.power ≠ .on)
    ∧ { State.reset with link := { Link.reset with tx := some ⟨.report, [], 100⟩ } }.dueEvents = []
    ∧ State.reset.dueEvents = [.reportFrameBegin]
    ∧ (ask State.reset 0x53 []).dueEvents = [.noOperation, .reportFrameBegin]
    ∧ (atClock State.reset 3).clock ≤ 3 ∧ (atClock State.reset 3).clock ≤ 4 := by decide +kernel

theorem test_meets_MoveRatesRunFromStartToEnd :
    moveRate 2 1000 2000 1 = 1000 ∧ moveRate 2 1000 2000 2 = 2000 ∧ moveRate 3 2000 1000 2 = 1500
    ∧ (∀ ph ∈ ([.stepping, .ramp] : List Phase),
        (going (move 4) ph none).seg.body = .move 4 1000 2000 true ∧ (going (move 4) ph none).phase = ph
        ∧ (going seek ph none).seg.body = .seek .positive 1000 50 .home .toActive ∧ (going seek ph none).phase = ph) := by decide

/-- Boundary values of the count, and a context that brakes and one that settles. -/
theorem test_meets_BrakeCountIsTheStepsAboveTheBaseRate :
    brakeCount 200 200 50 = 0 ∧ brakeCount 250 200 50 = 0 ∧ brakeCount 251 200 50 = 1 ∧ brakeCount 1000 200 50 = 15
    ∧ (∀ ph ∈ ([.brake, .settle] : List Phase),
        (going (move 9) ph (some ⟨1000, 0, 15⟩)).phase = ph
        ∧ (going (move 9) ph (some ⟨1000, 0, 15⟩)).brake = some ⟨1000, 0, 15⟩) := by decide

/-- An axis in READY with the encoder enabled, limit 10 and the encoder at `p`. -/
def following (p : Word32) : Axis :=
  { off with
    st := .ready
    settings := { AxisSettings.reset with encoderEnable := true }
    protection := { Protection.reset with followLimit := 10 }
    encoder := { Encoder.reset with position := p, quad := some (false, false) } }

/-- The same axis with its head active. -/
def chasing (st : AxisState) (c : Ctx) : Axis := { following 20 with st := st, queue := [c.seg], ctx := some c, rate := 1000 }

/-- The limit on both sides; a step beyond it that falls due, one that was delayed, the last one of its segment, and the last one and one
before the last of a brake in HOLDING and FAULT_BRAKE. -/
theorem test_meets_FollowingErrorIsComparedWithItsLimit :
    ((following 11).followExceeded = true ∧ (following 10).followExceeded = false ∧ (following (-11)).followExceeded = true
      ∧ (following (BitVec.intMin 32)).fe = BitVec.intMin 32)
    ∧ (∀ c ∈ [going (move 9) .stepping none, going (move 4) .stepping none, going (move 9) .brake (some ⟨1000, 14, 15⟩),
        going (move 9) .brake (some ⟨1000, 1, 15⟩)],
      ∀ st ∈ ([.run, .holding, .faultBrake] : List AxisState),
      c.hasNextStep = true ∧ (chasing st c).atLimit .positive = false ∧ (chasing st c).output.high = false
      ∧ c.nextDue (chasing st c).settings ≤ 800000 ∧ (chasing st c).lastDir = .positive ∧ (chasing st c).output.dirShown = .positive
      ∧ ((chasing st c).stepped 800000 (c.nextRate .reset) .positive c).followExceeded = true)
    ∧ { going (move 9) .stepping none with delayed := some 7 }.delayed = some 7
    ∧ (Protection.reset.followPolicy = .halt ∧ { Protection.reset with followPolicy := .brake }.followPolicy = .brake)
    ∧ brakeCount (moveRate 9 1000 2000 4) 50000 50 = 0 := by decide

/-- A segment at the bounds of R2, gated on a group that the axis is a member of, and settings in range. -/
theorem test_meets_RecordsAndSettingsReadBack :
    SegBody.inRange (.move (-8388607) 16 250000 true) ∧ inSet 9 3 = true
    ∧ readRecord (fun _ => 9) 3 (Segment.bytes ⟨0xFFFF, some 7, .move (-8388607) 16 250000 true⟩)
        = .ok ⟨0xFFFF, some 7, .move (-8388607) 16 250000 true⟩
    ∧ AxisSettings.wf ⟨16, 65535, 63, 1, true, false, true, true, true, 7, 0, true, 64, true⟩ := by
  refine ⟨by unfold SegBody.inRange; decide, by decide, by decide +kernel, by unfold AxisSettings.wf; decide⟩

theorem test_meets_FramesHaveTheirLayout :
    (⟨255, 0x61, List.replicate 247 0⟩ : Reply).payload.length ≤ 247
    ∧ (Entry.frame ⟨0, 0, .resetNotice .pin 1, false, false⟩).take 13 = [0x96, 11, 3, 0, 1, 0, 0, 0, 0, 0, 0, 1, 1] := by
  decide +kernel

/-- A hunting receiver with room, and a request; the bytes of a No Operation are received. -/
theorem test_meets_RequestFrameIsReceived :
    State.reset.power = .on ∧ State.reset.link.inBreak = false ∧ State.reset.link.receiver = .hunting
    ∧ State.reset.link.gapStart = none ∧ State.reset.link.rxBuffer.length < 2 ∧ (fr 0x53 [1, 2]).payload.length ≤ 247
    ∧ (State.reset.receive (frameBytes 1 7 0x53 [1, 2])).link.rxBuffer = [fr 0x53 [1, 2]] := by decide +kernel

/-- A block with this receiver. -/
def receiving (r : Receiver) : State := { State.reset with link := { Link.reset with receiver := r, gapStart := some 0 } }

theorem test_meets_ReceiverTakesBytesGapsAndBreaks :
    (∀ r ∈ ([.hunting, .length, .body 3 [1, 1, 1]] : List Receiver), (receiving r).power = .on
      ∧ (receiving r).link.inBreak = false ∧ (receiving r).link.receiver = r)
    ∧ ([1, 1, 1] : List Byte).length + 1 < (3 : Byte).toNat + 2
    ∧ (receiving .length).link.gapStart = some 0 ∧ 0 + 8001 ≤ (atClock (receiving .length) 8001).clock
    ∧ { Link.reset with inBreak := true }.inBreak = true := by decide

/-- The frames at the last byte of a No Operation: right, of another kind, with a wrong check value; and a full buffer. -/
theorem test_meets_CompleteFrameIsChecked :
    (frameBytes 1 7 0x53 []).length = 7 ∧ (frameBytes 1 7 0x53 []).drop 2 = [1, 7, 0x53, 45, 219]
    ∧ (frameBytes 2 7 0x53 []).drop 2 = [2, 7, 0x53, 125, 130]
    ∧ (receiving (.body 3 [1, 7, 0x53, 45])).link.receiver = .body 3 [1, 7, 0x53, 45]
    ∧ (45 : Byte).toNat + 256 * (219 : Byte).toNat = (crc16 [3, 1, 7, 0x53]).toNat
    ∧ (125 : Byte).toNat + 256 * (130 : Byte).toNat = (crc16 [3, 2, 7, 0x53]).toNat
    ∧ 2 ≤ { Link.reset with rxBuffer := [fr 0 [], fr 0 []] }.rxBuffer.length := by decide +kernel

/-- A reply with payload [0] in the slot. -/
def replying (begun : Bool) : Link := { Link.reset with replySlot := some ⟨⟨7, 0x52, [0]⟩, begun⟩, resetPending := true }

theorem test_meets_LinkResetClearsTheLinkAlone :
    State.reset.power = .on ∧ State.reset.link.resetPending = false
    ∧ (replying false).resetPending = true ∧ (replying false).replySlot = some ⟨⟨7, 0x52, [0]⟩, false⟩ := by decide

/-- A queue of a sent and an unsent report. -/
def twoReports (streaming : Bool) (window : Nat) : ReportUnit :=
  ⟨[⟨0, 0, .resetNotice .powerOn 1, true, true⟩, ⟨1, 0, .queueLow 0 3, false, false⟩], 2, streaming, window, 50, some 50000⟩

theorem test_meets_TransmitterServesRepliesFirst :
    ((replying false).tx = none ∧ (replying false).replySlot = some ⟨⟨7, 0x52, [0]⟩, false⟩)
    ∧ (State.reset.link.replySlot = none ∧ (twoReports true 2).streaming = true
      ∧ (twoReports true 2).queue =
          [⟨0, 0, .resetNotice .powerOn 1, true, true⟩] ++ ⟨1, 0, .queueLow 0 3, false, false⟩ :: []
      ∧ (twoReports true 2).inFlightCount < (twoReports true 2).window)
    ∧ (twoReports false 2).streaming = false ∧ (twoReports true 1).window ≤ (twoReports true 1).inFlightCount
    ∧ { Link.reset with tx := some ⟨.report, [], 0⟩ }.tx = some ⟨.report, [], 0⟩ := by decide

/-- Nine bytes at 2 Mbit/s take 45 µs, and at 115200 bit/s 781.25 µs. -/
theorem test_line_times : lineTime 2000000 9 = 180 ∧ lineTime 115200 9 = 3125 := by decide

theorem test_meets_DuplicateIsAnsweredFromTheRecord :
    { Link.reset with rxBuffer := [fr 0x53 []], dup := ⟨true, 7, ⟨7, 0x53, [0]⟩⟩ }.dup = ⟨true, (fr 0x53 []).seq, ⟨7, 0x53, [0]⟩⟩
    ∧ State.reset.power = .on ∧ Link.reset.replySlot = none ∧ Link.reset.resetPending = false
    ∧ ∀ a, (State.reset.axis a).silencePending = false := by decide

/-! ## Hypotheses of the requests -/

/-- Every code and payload is offered by a block whose axis 0 is any axis value with no SILENCE on its way. -/
theorem test_meets_offers (x : Axis) (code : Byte) (p : List Byte) (quiet : x.silencePending = false) :
    (asks x code p).offers (fr code p) [] ∧ (asks x code p).axis 0 = x ∧ byteAt [axisByte 0] 0 = axisByte 0 := by
  refine ⟨⟨rfl, rfl, rfl, rfl, nofun, fun a => ?_⟩, rfl, rfl⟩
  fin_cases a
  · exact quiet
  all_goals rfl

theorem test_meets_RequestsAreCheckedInOrder :
    (0xFF : Byte) ∉ requestCodes ∧ (fr 0x11 []).payload.length ≠ 2
    ∧ ((fr 0x11 [4, 0]).payload.length = 2 ∧ 4 ≤ (byteAt [4, 0] 0).toNat)
    ∧ (fr 0x31 []).payload.length ≠ 1 ∧ ((fr 0x31 [8]).payload.length = 1 ∧ 8 ≤ (byteAt [8] 0).toNat)
    ∧ (fr 0x52 [0]).payload.length ≠ 0 ∧ 32 < (fr 0x53 (List.replicate 33 0)).payload.length := by decide

theorem test_meets_WrongStateIsRefused :
    ({ off with st := .ready }.st ≠ .off ∧ off.st ≠ .ready ∧ off.st ≠ .run ∧ off.st ≠ .gate ∧ off.st ≠ .held ∧ off.st ≠ .fault)
    ∧ byteAt [0, 1, 0] 1 = 1 ∧ off.st ∈ ([.off, .ready, .faultBrake, .fault] : List AxisState)
    ∧ { off with st := .run }.st ∈ ([.run, .gate, .holding, .held, .stopping, .faultBrake] : List AxisState)
    ∧ readAxisSettings (axisByte 0 :: AxisSettings.reset.bytes) = some .reset := by decide +kernel

/-- The same for any state whose link is as after reset. -/
theorem test_meets_offers_any (s : State) (code : Byte) (p : List Byte) (on : s.power = .on) (l : s.link = .reset)
    (quiet : ∀ a, (s.axis a).silencePending = false) : (ask s code p).offers (fr code p) [] := by
  refine ⟨on, rfl, ?_, ?_, ?_, quiet⟩ <;> simp [ask, l, Link.reset]

/-! ### The Segment Store -/

/-- A Load Segments of one record. -/
def oneRecord (seg : Segment) : List Byte := [0, 1] ++ seg.bytes

theorem test_meets_LoadSegmentsAdmitsAllRecords :
    (oneRecord (move 5)).length = 2 + 14 * 1 ∧ byteAt (oneRecord (move 5)) 0 = axisByte 0 ∧ byteAt (oneRecord (move 5)) 1 = 1
    ∧ readRecords (fun _ => 0) 0 0 (recordsOf (oneRecord (move 5)) 1) = .ok [move 5]
    ∧ { off with st := .ready, quota := 1 }.depth + 1 ≤ 1 ∧ 1 ≤ State.reset.poolFree ∧ ({ off with st := .ready }).st ≠ .run := by
  decide +kernel

theorem test_meets_LoadOnAStarvedAxisBeginsTheHead :
    (∀ seg ∈ [dwell, move 5, move (-5), seek, mark, gated], readRecords (fun _ => 3) 0 0 (recordsOf (oneRecord seg) 1) = .ok [seg])
    ∧ ({ off with st := .run }.ctx = none ∧ { off with st := .run }.queue = [] ∧ 1 ≤ { off with st := .run }.quota)
    ∧ (∀ g, inSet (State.reset.group g).arrived 0 = false) ∧ dwell.gate = none ∧ dwell.body = .dwell 1000 true
    ∧ gated.gate = some 0 ∧ (pairGroup 0 none).arrived ||| axisBit 0 ≠ (pairGroup 0 none).members
    ∧ (pairGroup 0 none).timeout ≠ 0 := by decide +kernel

/-- Axis 0 RUN, starved, and a group of two to which a gated DWELL is loaded: all the hypotheses together. -/
theorem test_meets_LoadOnAStarvedAxisBeginsTheHead_gated :
    ∀ s, s = ask ((on0 { off with st := .run }).setGroup 0 (pairGroup 0 none)) 0x10 (oneRecord gated) →
      s.offers (fr 0x10 (oneRecord gated)) []
      ∧ readRecords (fun g => (s.group g).members) 0 0 (recordsOf (oneRecord gated) 1) = .ok [gated]
      ∧ (s.axis 0).st = .run ∧ (s.axis 0).ctx = none ∧ (s.axis 0).queue = [] ∧ (∀ g, inSet (s.group g).arrived 0 = false)
      ∧ (s.group 0).arrived ||| axisBit 0 ≠ (s.group 0).members := by
  rintro s rfl
  exact ⟨test_meets_offers_any _ _ _ rfl rfl (by decide), by decide +kernel⟩

/-- One record for each reason, at the bounds of its values; one that passes; and the second record of two as the first invalid. -/
theorem test_meets_LoadSegmentsIsRefusedInOrder_reasons :
    readRecord (fun _ => 0) 0 [0] = .error .badKind ∧ readRecord (fun _ => 0) 0 [1] = .error .badSteps
    ∧ readRecord (fun _ => 0) 0 [1, 0, 0, 0, 0, 0, 0x80] = .error .badSteps
    ∧ readRecord (fun _ => 0) 0 [2] = .error .badDuration ∧ readRecord (fun _ => 0) 0 [3] = .error .badMaxSteps
    ∧ readRecord (fun _ => 0) 0 ([1, 0, 0, 0, 1, 0, 0] ++ leBytes 3 15 ++ leBytes 3 16) = .error .badRate
    ∧ readRecord (fun _ => 0) 0 ([1, 0, 0, 0, 1, 0, 0] ++ leBytes 3 16 ++ leBytes 3 250001) = .error .badRate
    ∧ readRecord (fun _ => 0) 0 ([3, 0, 0, 0, 0] ++ leBytes 3 15 ++ leBytes 3 1) = .error .badRate
    ∧ readRecord (fun _ => 0) 0 [4, 2] = .error .gateUndefined ∧ readRecord (fun _ => 6) 0 [4, 2] = .error .gateNotMember
    ∧ readRecord (fun _ => 3) 0 [4, 2] = .ok ⟨0, some 0, .mark⟩
    ∧ readRecords (fun _ => 0) 0 0 [[4], [2], [0]] = .error (1, .badDuration)
    ∧ readRecords (fun _ => 0) 0 0 [[4], [4]] = .ok [⟨0, none, .mark⟩, ⟨0, none, .mark⟩] := by decide +kernel

/-- One payload for each check. -/
theorem test_meets_LoadSegmentsIsRefusedInOrder :
    ([0] : List Byte).length < 2 ∧ 4 ≤ (byteAt [4, 0] 0).toNat ∧ ([0, 1] : List Byte).length ≠ 2 + 14 * (byteAt [0, 1] 1).toNat
    ∧ ([0, 0] : List Byte).length = 2 + 14 * 0 ∧ ([0, 9] ++ List.replicate 126 0 : List Byte).length = 2 + 14 * 9
    ∧ readRecords (fun _ => 0) 0 0 (recordsOf ([0, 1] ++ List.replicate 14 0) 1) = .error (0, .badKind)
    ∧ readRecords (fun _ => 0) 0 0 (recordsOf (oneRecord gated) 1) = .error (0, .gateUndefined)
    ∧ { off with quota := 1, queue := [mark] }.quota < { off with quota := 1, queue := [mark] }.depth + 1
    ∧ { State.reset with poolFree := 0 }.poolFree < 1 := by decide +kernel

theorem test_meets_TrimQueueStopsAtTheProtectedSegments :
    (fr 0x11 [0, 129]).payload = [axisByte 0, 129] ∧ 128 < (129 : Byte).toNat ∧ 1 ≤ (1 : Byte).toNat ∧ (128 : Byte).toNat ≤ 128 := by
  decide

theorem test_meets_FlushQueueKeepsTheActiveSegment :
    (active .run (going (move 5) .stepping none)).ctx.isSome = true ∧ (off.ctx = none ∧ off.st ≠ .gate)
    ∧ { off with st := .gate, queue := [gated] }.headGate = some 0 := by decide

theorem test_meets_ConfigureQueueAndProtectionSetAllOrNone :
    (∀ q ∈ ([1, 128] : List Byte), 1 ≤ q.toNat ∧ q.toNat ≤ 128 ∧ off.depth ≤ q.toNat) ∧ (127 : Byte).toNat ≤ 127
    ∧ 128 < (129 : Byte).toNat ∧ 127 < (128 : Byte).toNat ∧ (1 : Byte).toNat < { off with queue := [mark, mark] }.depth
    ∧ (fr 0x38 [0, 255, 255, 1, 0, 1, 1, 0, 0, 1, 3]).payload = axisByte 0 :: leBytes 2 65535 ++ [1, 0, 1, 1, 0, 0, 1, 3]
    ∧ (∃ p ∈ ([2, 0, 0, 0, 0, 0, 0] : List Byte), p ≠ 0 ∧ p ≠ 1) := by decide

/-! ### The Axis Controllers -/

theorem test_meets_EnableAndDisableAxis :
    (off.st = .off ∧ off.inputActive .dflt = false)
    ∧ { off with inputs := { off.inputs with dflt := .settled false } }.inputActive .dflt = true
    ∧ { off with st := .ready }.st = .ready := by decide

/-- READY with this queue. -/
def ready (q : List Segment) : Axis := { off with st := .ready, ena := true, queue := q }

/-- `x` with STEP high until the clock 3. -/
def pulsed (x : Axis) : Axis := { x with output := { StepOutput.reset with high := true, pulseEnd := 3, nextPulse := 9 } }

/-- A DWELL, a MOVE, a SEEK, a MOVE against DIR, a MOVE along and against DIR while STEP is high, and MARKs with nothing, a DWELL and a MOVE
behind them become active from standstill. -/
theorem test_heads_become_active :
    (∃ y, (ready [dwell]).activates 0 0 y [] [])
    ∧ (∀ seg ∈ [move 5, seek], ∃ y, (ready [seg]).activates 0 0 y [] [] ∧ y.position = 1)
    ∧ (∃ y, (ready [move (-5)]).activates 0 0 y [] [] ∧ y.position = 0 ∧ y.output.dirShown = .negative)
    ∧ (∃ y, (pulsed (ready [move 5])).activates 0 0 y [] [] ∧ y.position = 0 ∧ y.ctx.map (·.delayed) = some (some 9))
    ∧ (∃ y, (pulsed (ready [move (-5)])).activates 0 0 y [] [] ∧ y.output.turnTo = some .negative ∧ y.ctx.map (·.delayed) = some (some 11))
    ∧ (∀ q ∈ [[], [dwell], [move 5]], ∃ y, (ready (mark :: mark :: q)).activates 0 0 y
        [.markReached 0 3 0 0, .markReached 0 3 0 0] [mark, mark] ∧ y.queue = q) := by
  refine ⟨⟨_, _, _, rfl, nofun, nofun, nofun, rfl, rfl, .inr (.inl ⟨dwell, _, _, rfl, rfl, rfl⟩)⟩, fun seg h => ?_,
    ⟨_, ⟨_, _, rfl, nofun, nofun, nofun, rfl, rfl, .inr (.inr ⟨move (-5), _, _, rfl, rfl, .inr (.inl ⟨by decide, rfl, rfl, rfl⟩),
      .inl ⟨by decide, by decide, rfl, rfl⟩⟩)⟩, rfl, rfl⟩,
    ⟨_, ⟨_, _, rfl, nofun, nofun, nofun, rfl, rfl, .inr (.inr ⟨move 5, _, _, rfl, rfl, .inl ⟨rfl, rfl, rfl⟩,
      .inl ⟨by decide, by decide, rfl, rfl⟩⟩)⟩, rfl, rfl⟩,
    ⟨_, ⟨_, _, rfl, nofun, nofun, nofun, rfl, rfl, .inr (.inr ⟨move (-5), _, _, rfl, rfl, .inr (.inr ⟨by decide, rfl, rfl, rfl⟩),
      .inl ⟨by decide, by decide, rfl, rfl⟩⟩)⟩, rfl, rfl⟩, fun q h => ?_⟩
  · simp only [List.mem_cons, List.not_mem_nil, or_false] at h
    rcases h with rfl | rfl <;> exact ⟨_, ⟨_, _, rfl, nofun, nofun, nofun, rfl, rfl, .inr (.inr ⟨_, _, _, rfl, rfl, .inl ⟨rfl, rfl, rfl⟩,
      .inr ⟨by decide, by decide, rfl, rfl, rfl⟩⟩)⟩, rfl⟩
  · simp only [List.mem_cons, List.not_mem_nil, or_false] at h
    rcases h with rfl | rfl | rfl
    · exact ⟨_, ⟨_, _, rfl, by decide, by decide, by simp, rfl, rfl, .inl ⟨by decide, rfl, rfl⟩⟩, rfl⟩
    · exact ⟨_, ⟨_, _, rfl, by decide, by decide, by simp [dwell], rfl, rfl, .inr (.inl ⟨dwell, _, _, rfl, rfl, rfl⟩)⟩, rfl⟩
    · exact ⟨_, ⟨_, _, rfl, by decide, by decide, by simp [move], rfl, rfl, .inr (.inr ⟨move 5, _, _, rfl, rfl, .inl ⟨rfl, rfl, rfl⟩,
        .inr ⟨by decide, by decide, rfl, rfl, rfl⟩⟩)⟩, rfl⟩

/-! ### All that one event sets going: `settles` and `begins` are met -/

/-- One task that leaves nothing. -/
theorem settles_one {s t : State} {task : Task} (h : s.taskDoes t [] task) : s.settles [task] t := .task h (.done _)

/-- An ungated head begins when it becomes active and what that leaves can be done. -/
theorem begins_ungated {s u t : State} {a : AxisId} {carry : Option Nat} {seg : Segment} {q : List Segment} {more : List Task}
    (may : s.mayStart a) (queue : (s.axis a).queue = seg :: q) (gate : seg.gate = none) (active : s.headActivates a carry u more)
    (rest : u.settles more t) : s.begins a carry t :=
  .task ⟨may, .inr ⟨seg, q, queue, .inl ⟨gate, rfl, rfl⟩⟩⟩ (.task active (by simpa using rest))

/-- An axis in RUN at this rate, its active segment gone, with this queue. -/
def handing (rate : Nat) (q : List Segment) : Axis := { ready q with st := .run, rate := rate }

/-- A MOVE of one step, and a SEEK of at most one. -/
def oneMove : Segment := ⟨6, none, .move 1 1000 100 false⟩
def oneSeek : Segment := ⟨7, none, .seek .positive 1000 1 .home .toActive⟩

/-- Starved; a DWELL; a MOVE or SEEK at a hand-over; and one from standstill that is issued, waits while STEP is high, is at its limit, exceeds
the follow limit, or ends with its only step in HELD. -/
theorem test_begins_each_head :
    (∃ t, (on0 (handing 1000 [])).begins 0 (some 8) t) ∧ (∃ t, (on0 (handing 1000 [dwell])).begins 0 (some 8) t)
    ∧ (∀ seg ∈ [move 5, seek, move (-5)], ∃ t, (on0 (handing 1000 [seg])).begins 0 (some 8) t ∧ (t.axis 0).rate = 1000
      ∧ (t.axis 0).ctx.map (·.lastStep) = some (some 8))
    ∧ (∃ t, (on0 (handing 0 [move 5])).begins 0 none t ∧ (t.axis 0).position = 1)
    ∧ (∃ t, (on0 (pulsed (handing 0 [move (-5)]))).begins 0 none t ∧ (t.axis 0).ctx.map (·.delayed) = some (some 11))
    ∧ (∃ t, (on0 { handing 0 [move 5] with inputs := { off.inputs with limp := .settled false } }).begins 0 none t)
    ∧ (∃ t, (on0 { following 20 with queue := [move 5] }).begins 0 none t)
    ∧ ∃ t, (on0 (handing 0 [oneSeek])).begins 0 none t ∧ (t.axis 0).st = .held := by
  refine ⟨⟨_, settles_one ⟨⟨rfl, by decide, by decide⟩, .inl ⟨rfl, rfl, rfl⟩⟩⟩,
    ⟨_, begins_ungated ⟨rfl, by decide, by decide⟩ rfl rfl ⟨⟨rfl, by decide, by decide⟩, _, dwell, _, rfl, rfl, .inl ⟨_, _, rfl, rfl, rfl⟩⟩ (.done _)⟩,
    fun seg h => ?_, ?_, ?_, ?_, ?_, ?_⟩
  · simp only [List.mem_cons, List.not_mem_nil, or_false] at h
    rcases h with rfl | rfl | rfl <;>
      exact ⟨_, begins_ungated ⟨rfl, by decide, by decide⟩ rfl rfl
        ⟨⟨rfl, by decide, by decide⟩, _, _, _, rfl, rfl, .inr (.inr ⟨rfl, .inl ⟨8, rfl, by decide, rfl, rfl⟩⟩)⟩ (.done _), rfl, rfl⟩
  · exact ⟨_, begins_ungated ⟨rfl, by decide, by decide⟩ rfl rfl
      ⟨⟨rfl, by decide, by decide⟩, _, move 5, _, rfl, rfl, .inr (.inr ⟨rfl, .inr ⟨.inl rfl, rfl, rfl⟩⟩)⟩
      (settles_one ⟨_, _, _, _, _, rfl, rfl, rfl, rfl, rfl, .inl rfl, rfl, rfl, by decide, .inl ⟨rfl, rfl, rfl⟩,
        .inr (.inr ⟨by decide, rfl, _, _, rfl, rfl, .inr (.inl ⟨rfl, by decide, rfl, rfl⟩)⟩)⟩), rfl⟩
  · exact ⟨_, begins_ungated ⟨rfl, by decide, by decide⟩ rfl rfl
      ⟨⟨rfl, by decide, by decide⟩, _, move (-5), _, rfl, rfl, .inr (.inr ⟨rfl, .inr ⟨.inl rfl, rfl, rfl⟩⟩)⟩
      (settles_one ⟨_, _, _, _, _, rfl, rfl, rfl, rfl, rfl, .inl rfl, rfl, rfl, by decide, .inr (.inr ⟨by decide, rfl, rfl, rfl⟩),
        .inl ⟨by decide, rfl, rfl⟩⟩), rfl⟩
  · exact ⟨_, begins_ungated ⟨rfl, by decide, by decide⟩ rfl rfl
      ⟨⟨rfl, by decide, by decide⟩, _, move 5, _, rfl, rfl, .inr (.inr ⟨rfl, .inr ⟨.inl rfl, rfl, rfl⟩⟩)⟩
      (settles_one ⟨_, _, _, _, _, rfl, rfl, rfl, rfl, rfl, .inl rfl, rfl, rfl, by decide, .inl ⟨rfl, rfl, rfl⟩,
        .inr (.inl ⟨by decide, rfl, rfl, rfl⟩)⟩)⟩
  · exact ⟨_, begins_ungated ⟨rfl, by decide, by decide⟩ rfl rfl
      ⟨⟨rfl, by decide, by decide⟩, _, move 5, _, rfl, rfl, .inr (.inr ⟨rfl, .inr ⟨.inl rfl, rfl, rfl⟩⟩)⟩
      (settles_one ⟨_, _, _, _, _, rfl, rfl, rfl, rfl, rfl, .inl rfl, rfl, rfl, by decide, .inl ⟨rfl, rfl, rfl⟩,
        .inr (.inr ⟨by decide, rfl, _, _, rfl, rfl, .inl ⟨by decide, rfl, rfl⟩⟩)⟩)⟩
  · obtain ⟨t, k⟩ := State.changesTo_exists ((on0 (handing 0 [oneSeek])).setAxis 0 { handing 0 [oneSeek] with ctx := some oneSeek.freshCtx }) 0
      { (handing 0 [oneSeek]).stepped 0 1000 .positive { oneSeek.freshCtx with stepsDone := 1, lastStep := some 0 } with
        st := .held, rate := 0, ctx := none, queue := [] } (.seekResult 0 7 false 1 none none :: (handing 0 [oneSeek]).lowAfterOne 0) [oneSeek]
    refine ⟨t, begins_ungated ⟨rfl, by decide, by decide⟩ rfl rfl
      ⟨⟨rfl, by decide, by decide⟩, _, oneSeek, _, rfl, rfl, .inr (.inr ⟨rfl, .inr ⟨.inl rfl, rfl, rfl⟩⟩)⟩
      (settles_one ⟨_, _, _, _, _, rfl, rfl, rfl, rfl, rfl, .inl rfl, rfl, rfl, by decide, .inl ⟨rfl, rfl, rfl⟩,
        .inr (.inr ⟨by decide, rfl, _, _, rfl, rfl, .inr (.inr (.inr ⟨rfl, rfl, rfl, rfl, rfl, k⟩))⟩)⟩), ?_⟩
    rw [k.1]

/-- A MOVE of one step completes with it, and a MARK completes as it becomes active: when the axis may then begin, what stands behind begins. -/
theorem test_begins_behind_a_move_of_one_step_or_a_mark :
    (∃ u : State, ∀ t, u.settles [.beginHead 0 (some 0)] t → (on0 (handing 0 [oneMove, move 5])).begins 0 none t)
    ∧ ∃ u : State, ∀ t, u.settles [.beginHead 0 (some 8)] t → (on0 (handing 1000 [mark, move 5])).begins 0 (some 8) t := by
  obtain ⟨u, k⟩ := State.changesTo_exists
    ((on0 (handing 0 [oneMove, move 5])).setAxis 0 { handing 0 [oneMove, move 5] with ctx := some oneMove.freshCtx }) 0
    { (handing 0 [oneMove, move 5]).stepped 0 1000 .positive { oneMove.freshCtx with stepsDone := 1, lastStep := some 0 } with
      ctx := none, queue := [move 5] } [] [oneMove]
  obtain ⟨v, h⟩ := State.changesTo_exists (on0 (handing 1000 [mark, move 5])) 0 { handing 1000 [mark, move 5] with queue := [move 5] }
    [.markReached 0 3 0 0] [mark]
  refine ⟨⟨u, fun t rest => begins_ungated ⟨rfl, by decide, by decide⟩ rfl rfl
    ⟨⟨rfl, by decide, by decide⟩, _, oneMove, _, rfl, rfl, .inr (.inr ⟨rfl, .inr ⟨.inl rfl, rfl, rfl⟩⟩)⟩
    (.task ⟨_, _, _, _, _, rfl, rfl, rfl, rfl, rfl, .inl rfl, rfl, rfl, by decide, .inl ⟨rfl, rfl, rfl⟩,
      .inr (.inr ⟨by decide, rfl, _, _, rfl, rfl, .inr (.inr (.inl ⟨rfl, rfl, _, _, _, _, rfl, rfl, k⟩))⟩)⟩ rest)⟩,
    ⟨v, fun t rest => begins_ungated ⟨rfl, by decide, by decide⟩ rfl rfl
      ⟨⟨rfl, by decide, by decide⟩, _, mark, _, rfl, rfl, .inr (.inl ⟨rfl, rfl, h⟩)⟩ rest⟩⟩

/-- A gated head waits. -/
theorem test_begins_waits : ∃ t, ((on0 (handing 1000 [gated])).setGroup 0 (pairGroup 0 none)).begins 0 (some 8) t :=
  ⟨_, settles_one ⟨⟨rfl, by decide, by decide⟩, .inr ⟨gated, [], rfl, .inr ⟨0, rfl, .inl ⟨by decide, rfl, rfl⟩⟩⟩⟩⟩

/-- With `test_heads_become_active`; a first step at the limit input, and one beyond the follow limit. -/
theorem test_meets_StartAxisBeginsTheHead :
    (∀ q ∈ [[], [dwell], [move 5], [seek], [mark], [gated]],
      (ready q).st = .ready ∧ (ready q).ctx = none ∧ (ready q).rate = 0 ∧ (ready q).atLimit .positive = false
        ∧ (ready q).output = .reset ∧ (ready q).lastDir = .positive)
    ∧ ({ following 20 with queue := [move 5] }.atLimit .positive = false
      ∧ ({ following 20 with queue := [move 5] }.stepped 0 1000 .positive
        { (move 5).freshCtx with stepsDone := 1, lastStep := some 0 }).followExceeded = true)
    ∧ (∀ seg ∈ [move 5, seek], seg.body.makesSteps = true ∧ 1 < seg.body.total ∧ seg.body.dir = .positive)
    ∧ { ready [move 5] with inputs := { off.inputs with limp := .settled false } }.atLimit .positive = true
    ∧ (StepOutput.reset.dirShown = .positive ∧ StepOutput.reset.turnTo = none ∧ StepOutput.reset.high = false
      ∧ StepOutput.reset.nextPulse ≤ 0)
    ∧ (pairGroup 0 none).arrived ||| axisBit 0 ≠ (pairGroup 0 none).members := by decide

/-- A meeting at group 0: axis 0 with `n` segments gated on it, axis 1 waiting in GATE. -/
def meetingOf (x : Axis) (n : Nat) : State :=
  { (((State.reset.setAxis 0 x).setAxis 1 { ready [gated] with st := .gate }).setGroup 0 { pairGroup 2 (some 9000) with refCount := n + 1 }) with
    poolFree := 127 - n }

/-- Axis 0 is READY with a gated head. -/
def meeting : State := meetingOf (ready [gated]) 1

theorem meetingOf_axis (x : Axis) (n : Nat) (a : AxisId) :
    (meetingOf x n).axis a = if a = 0 then x else if a = 1 then { ready [gated] with st := .gate } else off := by
  fin_cases a <;> rfl

theorem quiet_axisWf (x : Axis) (c : x.ctx = none) (r : x.faultRecord = none)
    (st : x.st ∈ ([.ready, .gate, .off, .run, .held] : List AxisState)) : x.recordWf ∧ x.activeWf := by
  simp only [List.mem_cons, List.not_mem_nil, or_false] at st
  refine ⟨?_, fun k h => by simp [c] at h, fun _ => c, fun h => ?_⟩
  · unfold Axis.recordWf
    rcases st with st | st | st | st | st <;> simp [r, st]
  · rcases st with st | st | st | st | st <;> simp [st] at h

theorem meetingOf_axesWf (x : Axis) (n : Nat) (c : x.ctx = none) (r : x.faultRecord = none)
    (st : x.st ∈ ([.ready, .gate, .off, .run, .held] : List AxisState)) : (meetingOf x n).axesWf := by
  refine ⟨fun a => ?_, fun g a h => ?_⟩
  · rw [meetingOf_axis]
    split
    · exact quiet_axisWf _ c r st
    · split <;> exact quiet_axisWf _ rfl rfl (by decide)
  · obtain ⟨rfl, rfl⟩ : g = 0 ∧ a = 1 := by
      have k : ∀ g : GroupId, ((meetingOf x n).group g).arrived = if g = 0 then 2 else 0 := by intro g; fin_cases g <;> rfl
      rw [k] at h
      revert h
      revert g a
      decide
    exact ⟨show inSet 3 1 = true by decide, rfl, rfl⟩

theorem meeting_axesWf : meeting.axesWf := meetingOf_axesWf _ _ rfl rfl (by decide)

theorem meeting_refCountWf : meeting.refCountWf := by
  intro g
  fin_cases g <;> decide

/-- Start Axis on a READY axis and Resume Axis on a HELD one, each with a gated DWELL, complete a set whose other member waits with one. -/
theorem test_meets_LastArrivalReleasesEveryMember (st : AxisState) (ok : st = .ready ∨ st = .held) :
    ∀ s, s = ask (meetingOf { ready [gated] with st := st } 1) (if st = .ready then 0x22 else 0x24) [0] →
      s.offers (fr (if st = .ready then 0x22 else 0x24) [0]) [] ∧ s.axesWf ∧ s.refCountWf ∧ (s.axis 0).headGate = some 0
      ∧ (s.axis 0).st = st ∧ (s.axis 0).ctx = none ∧ (s.group 0).arrived ||| axisBit 0 = (s.group 0).members
      ∧ ∃ y : AxisId → Axis, ∀ m, inSet (s.group 0).members m = true → (s.axis m).activates s.clock m (y m) [] [] := by
  rintro s rfl
  refine ⟨test_meets_offers_any _ _ _ rfl rfl fun a => ?_, meetingOf_axesWf _ _ rfl rfl (by rcases ok with rfl | rfl <;> decide), fun g => ?_,
    rfl, rfl, rfl, show 2#4 ||| axisBit 0 = 3 by decide, _,
    fun m h => ⟨[gated], _, ?_, nofun, nofun, nofun, rfl, rfl, .inr (.inl ⟨gated, _, _, rfl, rfl, rfl⟩)⟩⟩
  · rw [meetingOf_axis]
    split
    · rfl
    · split <;> rfl
  · fin_cases g <;> rcases ok with rfl | rfl <;> decide
  · change inSet 3 m = true at h
    obtain rfl | rfl : m = 0 ∨ m = 1 := by revert h; revert m; decide
    all_goals rfl

/-- A gated MARK with a gated DWELL behind it completes the set: the MARK is reached, its axis arrives at the group again and waits, and the
other member's DWELL is timed (R104). -/
theorem test_released_mark_arrives_again :
    ∃ t, (meetingOf (ready [⟨3, some 0, .mark⟩, gated]) 2).begins 0 none t ∧ (t.axis 0).st = .gate ∧ (t.axis 1).st = .run := by
  let x := ready [⟨3, some 0, .mark⟩, gated]
  let u := ((meetingOf x 2).setAxis 0 { x with rate := 0 }).released 0
  obtain ⟨v, k⟩ := State.changesTo_exists u 0 { x with st := .run, ctx := none, queue := [gated] } [.markReached 0 3 0 0] [⟨3, some 0, .mark⟩]
  have arrived : ∀ g, (v.group g).arrived = 0 := fun g => by
    rw [k.2.2.2.1]
    fin_cases g <;> rfl
  have members : (v.group 0).members = 3 := by rw [k.2.2.2.1]; rfl
  have one : v.axis 1 = { ready [gated] with st := .gate } := by rw [k.2.1 1 (by decide)]; rfl
  have none_in : ∀ g a, inSet (v.group g).arrived a = false := fun g a => by rw [arrived, inSet]; simp
  let w := (v.setAxis 0 { v.axis 0 with st := .gate, rate := 0 }).setGroup 0 { v.group 0 with
    arrived := (v.group 0).arrived ||| axisBit 0
    timer := if (v.group 0).arrived = 0 ∧ (v.group 0).timeout ≠ 0 then some (v.micros + (v.group 0).timeout * 1000) else (v.group 0).timer }
  have w1 : w.axis 1 = { ready [gated] with st := .gate } := by
    simp only [w, State.axis_setGroup]
    rw [State.axis_setAxis_ne _ _ (by decide), one]
  refine ⟨_, .task ⟨⟨rfl, by decide, by decide⟩, .inr ⟨_, _, rfl, .inr ⟨0, rfl, .inr ⟨by decide, rfl, rfl⟩⟩⟩⟩
    (.task (more := [.beginHead 0 none]) ⟨⟨rfl, by decide, by decide⟩, _, _, _, rfl, rfl, .inr (.inl ⟨rfl, rfl, k⟩)⟩
      (.task (u := w) (more := []) ⟨⟨by rw [k.1], by rw [k.1]; decide, fun g => none_in g 0⟩, .inr ⟨gated, [], by rw [k.1], .inr ⟨0, rfl,
        .inl ⟨by rw [arrived, members]; decide, rfl, rfl⟩⟩⟩⟩
        (.task (more := []) ⟨⟨by rw [w1]; rfl, by rw [w1]; decide, fun g => ?_⟩, _, gated, [], rfl, by rw [w1]; rfl,
          .inl ⟨10, false, rfl, rfl, rfl⟩⟩ (.done _)))), ?_, ?_⟩
  · simp only [w, State.group_setGroup, State.group_setAxis]
    split
    · rw [arrived]
      exact show inSet (0#4 ||| axisBit 0) 1 = false by decide
    · exact none_in g 1
  · rw [State.axis_setAxis_ne _ _ (by decide)]
    simp [w]
  · simp

/-- A gated DWELL loaded on axis 0, RUN and starved, completes the set, and both heads become active. -/
theorem test_meets_LoadOnAStarvedAxisBeginsTheHead_release :
    ∀ s, s = ask (meetingOf { off with st := .run } 0) 0x10 (oneRecord gated) →
      s.offers (fr 0x10 (oneRecord gated)) []
      ∧ readRecords (fun g => (s.group g).members) 0 0 (recordsOf (oneRecord gated) 1) = .ok [gated]
      ∧ (s.axis 0).st = .run ∧ (s.axis 0).ctx = none ∧ (s.axis 0).queue = [] ∧ (∀ g, inSet (s.group g).arrived 0 = false)
      ∧ ∀ u, s.admits 0 [gated] u → (u.axis 0).queue = [gated] ∧ u.axis 1 = { ready [gated] with st := .gate }
        ∧ (u.group 0).arrived = 2 ∧ (u.group 0).members = 3 ∧ ∀ h, h ≠ 0 → (u.group h).arrived = 0 := by
  rintro s rfl
  refine ⟨test_meets_offers_any _ _ _ rfl rfl (by decide), by decide +kernel, rfl, rfl, rfl, by decide, fun u h => ⟨?_, ?_, ?_, ?_, fun g ne => ?_⟩⟩
  · rw [h.1]
    rfl
  · rw [h.2.1 1 (by decide)]
    rfl
  · rw [h.2.2.2.1]
    rfl
  · rw [h.2.2.2.1]
    rfl
  · rw [h.2.2.2.1]
    revert ne
    revert g
    decide

/-- A MOVE of nine steps with three done, in this phase. -/
def nine (ph : Phase) (b : Option Brake) : Ctx := going (move 9) ph b

theorem test_meets_HoldAxisPausesTheAxis :
    ({ off with st := .gate, queue := [gated] }.ctx = none ∧ { off with st := .gate, queue := [gated] }.headGate = some 0)
    ∧ (going dwell .timing none).seg.body = .dwell 1000 true
    ∧ ((nine .stepping none).seg.body.makesSteps = true ∧ (nine .stepping none).stepsDone < (nine .stepping none).seg.body.total
      ∧ 0 < brakeCount (active .run (nine .stepping none)).rate 200 50 ∧ brakeCount { off with rate := 250 }.rate 200 50 = 0)
    ∧ ((going seek .settle (some ⟨1000, 0, 15⟩)).phase = .settle ∧ (0 : Nat) < 15
      ∧ (going seek .settle none).stepsDone < seek.body.total) := by decide

/-- A held axis. -/
def held (c : Option Ctx) (q : List Segment) : Axis := { off with st := .held, ena := true, ctx := c, queue := q }

/-- A held DWELL with no time left, and a head behind it: each begins, by the theorems `test_begins_…`. -/
theorem test_meets_ResumeAxisGoesOn :
    ((held (some (nine .paused none)) [move 9]).ctx = some (nine .paused none) ∧ (nine .paused none).seg.body.makesSteps = true
      ∧ (nine .paused none).brake = none ∧ (nine .paused none).delayed = none
      ∧ (nine .paused none).stepsDone + 1 < (nine .paused none).seg.body.total ∧ (held none []).atLimit .positive = false
      ∧ (held none []).followExceeded = false)
    ∧ 0 < { going dwell .paused none with dwellLeft := 1 }.dwellLeft ∧ (held none []).queue = []
    ∧ (∀ q ∈ [[], [dwell], [move 5], [mark], [gated]],
      (held (some (going dwell .paused none)) (dwell :: q)).queue = (going dwell .paused none).seg :: q
        ∧ (going dwell .paused none).seg.body = .dwell 1000 true ∧ (going dwell .paused none).dwellLeft = 0
        ∧ (held none q).ctx = none ∧ (held none q).queue = q)
    ∧ (∀ g, inSet (State.reset.group g).arrived 0 = false)
    ∧ (pairGroup 0 none).arrived ||| axisBit 0 ≠ (pairGroup 0 none).members := by decide

/-- A held MOVE whose first resumed step waits while STEP is high, or meets its limit. -/
theorem test_meets_ResumeAxisGoesOn_settles :
    ∀ c ∈ [{ nine .paused none with phase := .ramp, rampSteps := 0 }],
      (∃ t, (on0 (pulsed { held (some c) [move 9] with st := .run })).settles [.stepNow 0] t)
      ∧ ∃ t, (on0 { held (some c) [move 9] with st := .run, inputs := { off.inputs with limp := .settled false } }).settles [.stepNow 0] t := by
  simp only [List.mem_singleton, forall_eq]
  exact ⟨⟨_, settles_one ⟨_, _, _, _, _, rfl, rfl, rfl, rfl, rfl, .inr rfl, rfl, rfl, by decide, .inl ⟨rfl, rfl, rfl⟩,
      .inl ⟨by decide, rfl, rfl⟩⟩⟩,
    ⟨_, settles_one ⟨_, _, _, _, _, rfl, rfl, rfl, rfl, rfl, .inr rfl, rfl, rfl, by decide, .inl ⟨rfl, rfl, rfl⟩,
      .inr (.inl ⟨by decide, rfl, rfl, rfl⟩)⟩⟩⟩

theorem test_meets_StopAxisEndsInReady :
    ((2 : Byte) ≠ 0 ∧ (2 : Byte) ≠ 1)
    ∧ ((active .run (nine .stepping none)).ctx = some (nine .stepping none) ∧ (nine .stepping none).brake = none
      ∧ 0 < brakeCount (active .run (nine .stepping none)).rate 200 50)
    ∧ ((active .holding (nine .brake (some ⟨1000, 1, 15⟩))).st = .holding ∧ (1 : Nat) < 15)
    ∧ { off with st := .stopping }.st = .stopping
    ∧ ((held none [mark]).ctx = none ∧ (1 : Byte).getLsbD 0 = true ∧ (0 : Byte).getLsbD 0 = false)
    ∧ ({ off with st := .gate, queue := [gated] }.ctx = none ∧ { off with st := .gate, queue := [gated] }.headGate = some 0)
    ∧ ((active .stopping (nine .brake (some ⟨1000, 1, 15⟩))).queue = (nine .brake (some ⟨1000, 1, 15⟩)).seg :: []
      ∧ (active .stopping (nine .brake (some ⟨1000, 1, 15⟩))).st ∈ ([.run, .holding, .held, .stopping] : List AxisState))
    ∧ ((active .run (going dwell .timing none)).st = .run ∧ (going dwell .timing none).seg.body.makesSteps = false)
    ∧ ({ active .run (nine .stepping none) with rate := 250 }.ctx = some (nine .stepping none)
      ∧ brakeCount 250 200 50 = 0 ∧ (nine .stepping none).stepsDone < (nine .stepping none).seg.body.total) := by decide

theorem test_meets_SetPositionSetsTheReference :
    (fr 0x26 [0, 4, 3, 2, 1, 1]).payload = axisByte 0 :: leBytes 4 (0x01020304 : Word32).toNat ++ [1]
    ∧ (following 0).followExceeded = false
    ∧ ({ following 0 with position := 3 }.followExceeded = true ∧ (following 0).st = .ready ∧ (following 0).ctx = none
      ∧ (following 0).protection.followPolicy = .halt
      ∧ { Protection.reset with followPolicy := .brake }.followPolicy ≠ .halt)
    ∧ ({ following 0 with position := 3, st := .fault, faultRecord := some ⟨.drive, 0, 5, 6, 7, 8, none, .run⟩ }.followExceeded = true)
    ∧ ((1 : Byte).getLsbD 0 = true ∧ (following 0).settings.encoderEnable = true) := by decide

/-! ### Groups and faults -/

theorem test_meets_GroupRequestsSetAndShowTheEntry :
    (fr 0x30 [0, 3, 0x60, 0xEA, 1]).payload = [groupByte 0, (3 : BitVec 4).setWidth 8] ++ leBytes 2 60000 ++ [1]
    ∧ (setSize 3 ≠ 1 ∧ setSize 0 ≠ 1 ∧ setSize 8 = 1) ∧ (State.reset.group 0).refCount = 0 ∧ (meeting.group 0).refCount ≠ 0
    ∧ 60000 < 60001 ∧ (fr 0x31 [0]).payload = [groupByte 0]
    ∧ (({ pairGroup 1 (some 9000) with members := 3 }).timer = some 9000 ∧ (9000 - (atClock meeting 36000).micros + 999) / 1000 = 0) := by
  decide

/-- A fault record made in RUN. -/
def record : FaultRecord := ⟨.drive, 0, 5, 6, 7, 8, some 1, .run⟩

/-- An axis in FAULT. -/
def faulted : Axis := { off with st := .fault, faultRecord := some record }

theorem test_meets_ClearFaultReturnsToReady :
    (faulted.st = .fault ∧ faulted.faultRecord = some record ∧ faulted.inputActive .dflt = false)
    ∧ { faulted with inputs := { off.inputs with dflt := .settled false } }.inputActive .dflt = true
    ∧ ({ State.reset with trip := .settled false }.trip.filtered = false ∧ faulted.protection.tripEnable = true)
    ∧ State.reset.trip.filtered = true ∧ (0 : Byte).getLsbD 0 = false ∧ (1 : Byte).getLsbD 0 = true := by decide

theorem test_meets_FirstCauseFaultsTheAxis :
    off.st = .off ∧ ((ready []).protection.policy .drive = .halt ∧ (ready []).ctx = none)
    ∧ ((ready []).protection.policy .silence ≠ .halt ∧ (ready []).stepping = false)
    ∧ ((active .run (nine .stepping none)).ctx = some (nine .stepping none)
      ∧ (active .run (nine .stepping none)).queue = (nine .stepping none).seg :: []
      ∧ (active .run (nine .stepping none)).protection.policy .drive = .halt)
    ∧ { off with st := .gate, queue := [gated] }.headGate = some 0 := by decide

theorem test_meets_FaultBrakeBeginsAndLaterCausesJoin :
    ((nine .stepping none).seg.body.makesSteps = true ∧ (active .run (nine .stepping none)).protection.policy .limitPos = .brake
      ∧ (nine .stepping none).stepsDone < (nine .stepping none).seg.body.total ∧ (0 : Nat) < brakeCount 1000 200 50)
    ∧ (nine .brake (some ⟨1000, 1, 15⟩)).brake = some ⟨1000, 1, 15⟩
    ∧ (brakeCount { active .run (nine .stepping none) with rate := 0 }.rate 200 50 = 0
      ∧ (active .run (nine .stepping none)).queue = (nine .stepping none).seg :: []
      ∧ { nine .stepping none with stepsDone := 9 }.seg.body.total ≤ { nine .stepping none with stepsDone := 9 }.stepsDone)
    ∧ (faulted.faultRecord = some record ∧ faulted.st = .fault)
    ∧ ({ active .faultBrake (nine .brake (some ⟨1000, 1, 15⟩)) with faultRecord := some record }.st = .faultBrake
      ∧ off.protection.policy .drive = .halt ∧ off.protection.policy .silence = .brake) := by decide

/-! ### Reports, the link, status -/

/-- A queue of `n` Queue Low reports. -/
def reports (n : Nat) : ReportUnit := { ReportUnit.empty with queue := List.replicate n ⟨0, 0, .queueLow 0 1, false, false⟩ }

theorem test_meets_ReportIsPlacedByTheQueue :
    (∀ n ∈ [0, 30, 31], (reports n).queue.length = n ∧ ∀ e ∈ (reports n).queue, e.body.isOverflow = false)
    ∧ ((⟨5, 0, .overflow 65535 2, false, false⟩ : Entry).body = .overflow 65535 2)
    ∧ (State.reset.attnPin = false ∧ { State.reset with reports := reports 0 }.attnPin = true) := by decide

theorem test_meets_ConfigureReportsSetsAllOrNone :
    (fr 0x40 [1, 8, 0xFB, 4]).payload = [1, 8] ++ leBytes 2 1275 ∧ 1275 % 5 = 0 ∧ 5 % 5 = 0
    ∧ (twoReports true 4).inFlightCount ≤ (1 : Byte).toNat
    ∧ (1 : Byte).toNat < { twoReports true 4 with queue := [⟨0, 0, .queueLow 0 1, true, true⟩, ⟨1, 0, .queueLow 0 1, true, true⟩] }.inFlightCount
    ∧ 8 < (9 : Byte).toNat ∧ 1275 < 1280 ∧ 6 % 5 ≠ 0 := by decide

theorem test_meets_AcknowledgeRemovesThroughN :
    (twoReports true 4).queue = [] ++ ⟨0, 0, .resetNotice .powerOn 1, true, true⟩ :: [⟨1, 0, .queueLow 0 3, false, false⟩]
    ∧ (⟨4, 0, .overflow 3 4, true, true⟩ : Entry).body = .overflow 3 4
    ∧ (∀ e ∈ (twoReports true 4).queue, e.seq = 1 → e.onceSent = false) := by decide

theorem test_meets_GoBackClearsTheInFlightMarks :
    (twoReports true 1).streaming = true ∧ 1 ≤ (twoReports true 1).window ∧ (fr 0x42 []).payload = []
    ∧ (twoReports true 1).timer = some 50000 ∧ 50000 ≤ (atClock State.reset 200000).micros := by decide

theorem test_meets_ConfigureLinkSetsTheSilenceTimeout :
    (fr 0x50 [0, 0]).payload = leBytes 2 0 ∧ (fr 0x50 [10, 0]).payload = leBytes 2 10 ∧ (fr 0x50 [0x10, 0x27]).payload = leBytes 2 10000
    ∧ (fr 0x50 [9, 0]).payload = leBytes 2 9 ∧ (fr 0x50 [0x11, 0x27]).payload = leBytes 2 10001 := by decide

theorem test_meets_ReadRequestsAnswerTheirFields :
    (∀ b ∈ ([0, 1, 2] : List Byte), (fr 0x51 [b]).payload = [b]) ∧ (2 : Byte) ≠ 0 ∧ (2 : Byte) ≠ 1 ∧ (fr 0x62 []).payload = []
    ∧ State.reset.link.silenceTimeout = 0 := by decide

theorem test_meets_NoOperationEchoesItsPayload :
    (fr 0x53 (List.replicate 32 9)).payload.length ≤ 32 ∧ 32 < (fr 0x53 (List.replicate 33 9)).payload.length
    ∧ status (exec .noOperation (ask State.reset 0x53 [9])) = some [0, 9] := by decide +kernel

theorem test_meets_ConfigureAxisSetsAllOrNone :
    (axisByte 0 :: AxisSettings.reset.bytes).length = 17
    ∧ readAxisSettings (axisByte 0 :: AxisSettings.reset.bytes) = some .reset ∧ off.st = .off
    ∧ AxisSettings.reset.switchFilter = off.settings.switchFilter ∧ AxisSettings.reset.encoderFilter = off.settings.encoderFilter
    ∧ readAxisSettings (axisByte 0 :: { AxisSettings.reset with switchFilter := 7, encoderFilter := 0, dirInverted := true }.bytes)
        = some { AxisSettings.reset with switchFilter := 7, encoderFilter := 0, dirInverted := true }
    ∧ readAxisSettings (List.replicate 17 0) = none
    ∧ (∀ i ∈ ([7, 8, 9, 10, 11, 14, 16] : List Nat),
      readAxisSettings ((axisByte 0 :: AxisSettings.reset.bytes).set i 1) ≠ none
      ∧ readAxisSettings ((axisByte 0 :: AxisSettings.reset.bytes).set i 2) = none)
    ∧ (off.output.dirShown = .positive ∧ off.settings.dirInverted = false ∧ off.dirPin = true
      ∧ { off with settings := { AxisSettings.reset with dirInverted := true } }.dirPin = false) := by decide +kernel

theorem test_meets_ReadAxisStatusShowsTheAxis :
    (fr 0x61 [0]).payload = [axisByte 0] ∧ off.ctx = none ∧ off.faultRecord = none ∧ faulted.faultRecord = some record ∧ record.activeTag = some 1
    ∧ off.depth < 2 ∧ off.headGate = none ∧ { record with activeTag := none }.activeTag = none
    ∧ { active .run (nine .stepping none) with queue := [move 9, mark] }.queue = move 9 :: mark :: []
    ∧ { off with queue := [gated] }.headGate = some 0 := by decide

theorem test_meets_SupplyAndResetnResetTheDevice :
    State.reset.resetnLow = false ∧ State.reset.power ≠ .off ∧ { State.reset with power := .held }.power = .held
    ∧ { State.reset with power := .off }.power ≠ .held := by decide

theorem test_meets_ResetDeviceWaitsForItsReply :
    (fr 0x52 []).payload = [] ∧ (replying false).resetPending = true
    ∧ { replying true with tx := some ⟨.reply, [], 0⟩ }.tx = some ⟨.reply, [], 0⟩
    ∧ { replying true with resetPending := false }.resetPending = false := by decide

/-! ## Hypotheses of timers, steps and inputs -/

theorem test_meets_TimersReachTheirAxes :
    ({ Link.reset with silenceTimer := some 10 }.silenceTimer = some 10 ∧ 10 ≤ (atClock State.reset 40).micros)
    ∧ { off with silencePending := true }.silencePending = true
    ∧ (State.reset.power = .on ∧ (ask State.reset 0x25 [0, 1, 0]).link.rxBuffer = [fr 0x25 [0, 1, 0]] ∧ Link.reset.replySlot = none
      ∧ Link.reset.resetPending = false)
    ∧ ((meeting.group 0).timer = some 9000 ∧ 9000 ≤ (atClock meeting 36000).micros) := by decide

/-- `x` in a block at 2000 µs. -/
def at2ms (x : Axis) : State := atClock (on0 x) 8000

theorem test_meets_StepIsIssued :
    (∀ c ∈ [nine .stepping none, nine .ramp none],
      c.stepsDone + 1 < c.seg.body.total ∧ c.nextDue (active .run c).settings ≤ (at2ms (active .run c)).clock
        ∧ (active .run c).st = .run ∧ c.brake = none ∧ (active .run c).atLimit .positive = false ∧ c.seg.body.dir = .positive)
    ∧ (∀ c ∈ [nine .brake (some ⟨1000, 1, 15⟩), going seek .settle (some ⟨1000, 1, 15⟩)],
      c.stepsDone + 1 < c.seg.body.total ∧ c.brake = some ⟨1000, 1, 15⟩ ∧ (1 : Nat) + 1 < 15
        ∧ c.nextDue (active .holding c).settings ≤ (at2ms (active .holding c)).clock)
    ∧ (active .run (nine .stepping none)).freeToStep 8000 .positive
    ∧ ((nine .stepping none).hasNextStep = true ∧ (on0 (active .run (nine .stepping none))).clock < (nine .stepping none).nextDue .reset
      ∧ (nine .stepping none).lastStep = some 0 ∧ (nine .ramp none).rampSteps = 0 ∧ { nine .ramp none with rampSteps := 1 }.rampSteps ≠ 0
      ∧ { nine .stepping none with lastStep := none }.lastStep = none)
    ∧ ({ nine .stepping none with delayed := some 7996 }.delayed = some 7996 ∧ (atClock State.reset 7995).clock < 7996)
    ∧ (active .run (nine .stepping none)).followExceeded = false := by
  unfold Axis.freeToStep
  decide

/-- The axis at its positive limit. -/
def atStop (x : Axis) : Axis := { x with inputs := { x.inputs with limp := .settled false } }

theorem test_meets_StepsAreWithheldOrDelayed :
    ((atStop (active .run (nine .stepping none))).atLimit .positive = true ∧ (nine .stepping none).hasNextStep = true
      ∧ (nine .stepping none).nextDue .reset ≤ 8000)
    ∧ ({ atStop (active .run (nine .stepping none)) with
          protection := { Protection.reset with limitPolicy := .halt } }.protection.limitPolicy = .halt)
    ∧ ({ atStop (active .faultBrake (nine .brake (some ⟨1000, 1, 15⟩))) with faultRecord := some record }.st = .faultBrake
      ∧ off.protection.limitPolicy = .brake ∧ { Protection.reset with limitPolicy := .halt }.limitPolicy = .halt
      ∧ (atStop (active .faultBrake (nine .brake (some ⟨1000, 1, 15⟩)))).queue = (nine .brake (some ⟨1000, 1, 15⟩)).seg :: [])
    ∧ ({ active .run (nine .stepping none) with output := { StepOutput.reset with dirShown := .negative } }.output.dirShown
        ≠ (nine .stepping none).seg.body.dir ∧ 1 ≤ off.settings.dirLead)
    ∧ ({ StepOutput.reset with high := true, pulseEnd := 8001, dirShown := .negative }.dirShown ≠ (nine .stepping none).seg.body.dir
      ∧ (at2ms off).clock < 8001)
    ∧ (off.output.high = false ∧ { nine .stepping none with delayed := some 8000 }.delayed = some 8000
      ∧ (atStop (active .faultBrake (nine .brake (some ⟨1000, 1, 15⟩)))).followExceeded = false)
    ∧ (off.output.dirShown = (nine .stepping none).seg.body.dir ∧ off.lastDir = .positive
      ∧ (at2ms off).clock < max 0 { StepOutput.reset with nextPulse := 8001 }.nextPulse
      ∧ { off with lastDir := .negative }.lastDir ≠ (nine .stepping none).seg.body.dir
      ∧ (at2ms off).clock < max ({ StepOutput.reset with dirChangedAt := 7999 }.dirChangedAt + 4 * off.settings.dirLead) 0) := by decide

/-- A MOVE and a SEEK one step before their ends. -/
def last (seg : Segment) : Ctx := { going seg .stepping none with stepsDone := seg.body.total - 1 }

/-- Steps that fall due and delayed steps; every next head of `test_begins_…`. -/
theorem test_meets_LastStepEndsTheSegment :
    ((last (move 9)).stepsDone + 1 = (9 : Int).natAbs ∧ (last (move 9)).nextDue .reset ≤ 8000
      ∧ (active .run (last (move 9))).queue = move 9 :: [] ∧ (∀ g, inSet (State.reset.group g).arrived 0 = false))
    ∧ (∀ q ∈ [[move 5], [seek], [dwell], [mark, move 5], [gated], [mark, gated]],
      { active .run (last (move 9)) with queue := move 9 :: q }.queue = move 9 :: q
      ∧ ((active .run (last (move 9))).stepped 8000 ((last (move 9)).nextRate .reset) .positive (last (move 9))).rate ≠ 0)
    ∧ (∀ c ∈ [{ last (move 9) with delayed := some 7996 }, { last seek with delayed := some 7996 }],
      c.delayed = some 7996 ∧ 7996 ≤ (at2ms (active .run c)).clock ∧ (active .run c).output.high = false
        ∧ (active .run c).atLimit .positive = false ∧ c.stepsDone + 1 = c.seg.body.total)
    ∧ ((last seek).stepsDone + 1 = 50 ∧ (last seek).watch = some .opened ∧ (last seek).nextDue .reset ≤ 8000)
    ∧ ((following 0).stepped 8000 1000 .positive (last (move 9))).followExceeded = false := by decide

theorem test_meets_LastBrakeStepEndsTheBrake :
    (∀ c ∈ [nine .brake (some ⟨1000, 14, 15⟩), going seek .settle (some ⟨1000, 14, 15⟩)],
      c.brake = some ⟨1000, 14, 15⟩ ∧ 14 + 1 = 15 ∧ c.nextDue .reset ≤ 800000 ∧ c.stepsDone + 1 ≠ c.seg.body.total
        ∧ c.stepsDone < c.seg.body.total ∧ c.seg.body.makesSteps = true ∧ c.delayed = none
        ∧ { c with delayed := some 799999 }.delayed = some 799999)
    ∧ ({ last (move 9) with phase := .brake, brake := some ⟨1000, 3, 15⟩ }.stepsDone + 1 = (move 9).body.total
      ∧ { last (move 9) with phase := .brake, brake := some ⟨1000, 3, 15⟩ }.nextDue .reset ≤ 800000)
    ∧ (∀ st ∈ ([.holding, .stopping, .faultBrake, .run] : List AxisState), (active st (nine .brake none)).st = st)
    ∧ { active .run (going seek .settle none) with queue := [seek, dwell] }.queue = seek :: dwell :: [] := by decide

/-- In FAULT_BRAKE a brake step passes the check at an active limit under policy BRAKE. -/
theorem test_limitPasses_in_FAULT_BRAKE :
    ∃ w, { atStop (active .faultBrake (nine .brake (some ⟨1000, 14, 15⟩))) with faultRecord := some record }.limitPasses .positive w :=
  ⟨_, .inr ⟨rfl, rfl, rfl, _, rfl, rfl⟩⟩

/-- An axis whose STEP pulse ends at the clock 40, with a DIR change that waits for it or none. -/
def pulsing (turn : Option Dir) : Axis := { off with output := { StepOutput.reset with high := true, pulseEnd := 40, turnTo := turn } }

theorem test_meets_PulseAndDwellEnd :
    (∀ turn ∈ [none, some Dir.negative], (pulsing turn).output.high = true ∧ (pulsing turn).output.pulseEnd ≤ 40
      ∧ (pulsing turn).output.turnTo = turn)
    ∧ ((active .run (going dwell .timing none)).st = .run ∧ (going dwell .timing none).dwellLeft = 0
      ∧ (active .run (going dwell .timing none)).queue = [dwell]
      ∧ { active .run (going dwell .timing none) with queue := [dwell, mark, move 5] }.queue = dwell :: [mark, move 5]
      ∧ ∀ g, inSet (State.reset.group g).arrived 0 = false) := by decide

theorem test_meets_RawChangesAreFiltered :
    (off.inputs.line .limp).raw = true ∧ (off.inputs.line .limp).due = none
    ∧ (timed false).due = some 16 ∧ 15 < 16 ∧ ¬16 < 16 ∧ off.settings.switchFilter ≤ 7 ∧ off.settings.encoderFilter ≤ 3
    ∧ State.reset.trip.raw ≠ false ∧ State.reset.trip.raw = true ∧ State.reset.trip.due = none
    ∧ { State.reset with trip := timed false }.trip.due = some 16 := by decide

theorem test_meets_DeliveredLevelsReachTheirConsumers :
    (∀ l ∈ [timed false, ⟨true, true, some 16⟩], l.due = some 16 ∧ 16 ≤ (at2ms off).clock)
    ∧ (¬off.triggeredBy .home (!off.inputActive .home) ∧ off.inputs.limp.due = none)
    ∧ ({ off with inputs := { off.inputs with dflt := timed true } }.inputActive .dflt = true)
    ∧ ({ off with inputs := { off.inputs with dflt := timed false } }.inputActive .dflt = false)
    ∧ ({ State.reset with trip := timed false }.trip.due = some 16 ∧ State.reset.trip.due = none)
    ∧ ({ off with tripPending := true }.tripPending = true ∧ off.protection.tripEnable = true ∧ off.tripPending = false
      ∧ { Protection.reset with tripEnable := false }.tripEnable = false) := by
  refine ⟨by decide, ⟨?_, by decide⟩, by decide, by decide, by decide, by decide⟩
  rintro ⟨h | h, _⟩ <;> exact absurd h (by decide)

/-- A seek under way that waits for HOME to become active. -/
def seeking (home : InputLine) : Axis :=
  { active .run (going seek .stepping none) with inputs := { off.inputs with home := home } }

theorem test_meets_TriggerEdgeIsFound :
    ((seeking (timed false)).inputActive .home = false ∧ (seeking (timed false)).ctx = some (going seek .stepping none)
      ∧ (going seek .stepping none).watch = some .opened ∧ (going seek .stepping none).stepsDone < 50
      ∧ 0 < brakeCount (seeking (timed false)).rate 200 50 ∧ (going seek .stepping none).edgePending = false
      ∧ ((seeking (timed false)).inputs.line .home).due = some 16 ∧ 16 ≤ (at2ms off).clock)
    ∧ { going seek .stepping none with edgePending := true }.edgePending = true
    ∧ ((⟨2, none, .seek .positive 1000 50 .index .toActive⟩ : Segment).body = .seek .positive 1000 50 .index .toActive
      ∧ (timed true).filtered = false ∧ (timed true).raw ≠ (timed true).filtered ∧ off.encoder.edgePending = false)
    ∧ ((active .holding (going seek .brake (some ⟨1000, 1, 15⟩))).st = .holding
      ∧ (going seek .brake (some ⟨1000, 1, 15⟩)).brake = some ⟨1000, 1, 15⟩ ∧ (going seek .brake none).watch = some .opened)
    ∧ (brakeCount { seeking (timed false) with rate := 0 }.rate 200 50 = 0 ∧ (seeking (timed false)).queue = seek :: []
      ∧ ∀ g, inSet (State.reset.group g).arrived 0 = false) := by decide

/-- A seek under way that waits for an index edge of this kind. -/
def indexing (st : AxisState) (e : TrigEdge) : Axis := active st (going ⟨2, none, .seek .positive 1000 50 .index e⟩ .stepping none)

/-- Triggered by the edge it waits for, in RUN and HOLDING, and by no other. -/
theorem test_triggeredBy :
    (indexing .run .toActive).triggeredBy .index true ∧ (indexing .holding .toInactive).triggeredBy .index false
    ∧ ¬off.triggeredBy .index true ∧ ¬off.triggeredBy .index false := by
  refine ⟨⟨.inl rfl, _, _, _, _, _, rfl, rfl, rfl, by decide⟩, ⟨.inr rfl, _, _, _, _, _, rfl, rfl, rfl, by decide⟩, ?_, ?_⟩
  all_goals rintro ⟨h | h, _⟩ <;> exact absurd h (by decide)

/-- With `test_triggeredBy`. -/
theorem test_meets_EncoderInputsAreCounted :
    ({ Encoder.reset with edgePending := true }.edgePending = true ∧ off.encoder.edgePending = false ∧ off.inputs.enci.due = none)
    ∧ ((timed true).filtered = false ∧ (timed false).filtered = true ∧ (timed true).due = some 16 ∧ 16 ≤ (at2ms off).clock)
    ∧ (indexing .run .toActive).encoder.edgePending = false
    ∧ (off.encoder.quad = none ∧ (following 0).encoder.quad = some (false, false)
      ∧ (following 0).inputs.enca.filtered = false ∧ (following 0).inputs.encb.filtered = false)
    ∧ (off.inputs.enca.due = none ∧ off.inputs.encb.due = none ∧ 16 < 17)
    ∧ (off.protection.encoderErrorEnable = false ∧ { Protection.reset with encoderErrorEnable := true }.encoderErrorEnable = true) := by
  decide

/-! ## One step of each family -/

/-- What a test looks at in the next state. -/
def look {α : Type} (o : Host.Outcome State Fault Refusal) (f : State → α) : Option α :=
  match o with
  | .next t => some (f t)
  | .fault _ | .refused _ => none

/-- A MOVE of five steps starts: its first step is issued in the event of the Start (R31, R37). -/
theorem test_start_issues_the_first_step :
    look (exec .startAxis (asks (ready [move 5]) 0x22 [0])) (fun t =>
      ((t.axis 0).st, (t.axis 0).position, (t.axis 0).rate, (t.axis 0).stepPin, (t.axis 0).ctx.map (·.stepsDone)))
    = some (.run, 1, 1000, true, some 1) := by decide +kernel

/-- A gated head that completes its barrier releases both members (R103). -/
theorem test_last_arrival_releases :
    look (exec .startAxis (ask meeting 0x22 [0])) (fun t =>
      ((t.axis 0).st, (t.axis 1).st, (t.group 0).arrived, (t.group 0).round, t.reports.queue.length))
    = some (.run, .run, 0, 6, 2) := by decide +kernel

/-- A release begins a MARK and a MOVE: Group Released, then the reports of the members (R103, R104). -/
theorem test_release_begins_a_mark_and_a_move :
    look (exec .startAxis (ask ((meetingOf (ready [⟨3, some 0, .mark⟩]) 1).setAxis 1
        { ready [⟨5, some 0, .move 5 1000 2000 true⟩] with st := .gate }) 0x22 [0])) (fun t =>
      ((t.axis 0).queue.length, (t.axis 1).st, (t.axis 1).position, t.reports.queue.map (·.body.kindCode)))
    = some (0, .run, 1, [1, 9, 4]) := by decide +kernel

/-- A DWELL held with no time left completes at the Resume, and the MOVE behind it issues its first step (R62, R63). -/
theorem test_resume_of_a_dwell_with_no_time_left :
    look (exec .resumeAxis (asks (held (some (going dwell .paused none)) [dwell, move 5]) 0x24 [0])) (fun t =>
      ((t.axis 0).st, (t.axis 0).queue, (t.axis 0).position, t.reports.queue.map (·.body.kindCode)))
    = some (.run, [move 5], 1, [1, 2]) := by decide +kernel

/-- MOVE, MARK, MOVE: the last step of the first, delayed or not, hands over to the second, rate and last step time kept (R39, R44). -/
theorem test_mark_leaves_the_hand_over_seamless :
    ∀ i ∈ [(Instr.stepDue 0, none), (Instr.delayedStepIssue 0, some 7996)],
      look (exec i.1 (at2ms { active .run { last (move 9) with delayed := i.2 } with queue := [move 9, mark, move 5] })) (fun t =>
        ((t.axis 0).rate, (t.axis 0).position, (t.axis 0).queue, (t.axis 0).ctx.map (·.lastStep)))
      = some (2000, 1, [move 5], some (some 8000)) := by decide +kernel

/-- A DWELL behind a MOVE begins at rate 0 and has no last step time (R28, R43). -/
theorem test_dwell_has_no_last_step_time :
    look (exec (.stepDue 0) (at2ms { active .run (last (move 9)) with queue := [move 9, dwell] })) (fun t =>
      ((t.axis 0).rate, (t.axis 0).ctx.map (·.lastStep))) = some (0, some none) := by decide +kernel

/-- A later step comes one interval, 800 µs at 1250 steps/s, after the one before (R36, R37). -/
theorem test_step_due_comes_after_its_interval :
    look (exec (.stepDue 0) (on0 (active .run { going (move 5) .stepping none with stepsDone := 1 }))) (fun t =>
      (t.micros, (t.axis 0).position, (t.axis 0).rate))
    = some (800, 1, 1250) := by decide +kernel

/-- A last step beyond the follow limit: FOLLOW under HALT aborts the segment with that step counted (R90). -/
theorem test_follow_comes_before_the_completion :
    look (exec (.stepDue 0) (on0 (chasing .run { going (move 4) .stepping none with stepsDone := 3 }))) (fun t =>
      ((t.axis 0).st, (t.axis 0).position, t.reports.queue.map (·.body.kindCode), (t.axis 0).queue))
    = some (.fault, 1, [1, 8, 3], []) := by decide +kernel

/-- DFLT becoming active at the end of its filter time of 4 µs faults a READY axis under HALT (R119, R122). -/
theorem test_dflt_faults_a_ready_axis :
    look (exec (.dfltChange 0) (on0 { ready [] with inputs := { off.inputs with dflt := timed false } })) (fun t =>
      (t.clock, (t.axis 0).st, (t.axis 0).ena, (t.axis 0).faultRecord.map (·.first)))
    = some (16, .fault, false, some .drive) := by decide +kernel

/-- A timed event of an input that is not being timed leaves the block as it is (log 1). -/
theorem test_event_without_its_condition : exec (.limitInputChange 0 .positive) State.reset = .next State.reset := by rfl

/-- A pair that changes in one channel counts one (R84). -/
theorem test_quadrature_counts :
    look (exec (.quadratureTransition 0) (on0 { following 0 with inputs := { off.inputs with enca := timed true } })) (fun t =>
      ((t.axis 0).encoder.position, (t.axis 0).encoder.quad))
    = some (1, some (true, false)) := by decide +kernel

/-- A pulse is high for its whole width, from the clock at which it begins (R170). -/
theorem test_pulse_lasts_its_width :
    look (exec .startAxis (ask (atClock (on0 (ready [move 5])) 7) 0x22 [0])) (fun t =>
      ((t.axis 0).output.high, (t.axis 0).output.pulseEnd, (t.axis 0).output.nextPulse))
    = some (true, 15, 23) := by decide +kernel

/-- A DIR change that waits for the end of the pulse comes although no step waits for it any more (R171). -/
theorem test_dir_changes_when_the_pulse_ends :
    look (exec (.stepPulseEnd 0) (on0 (pulsing (some .negative)))) (fun t => ((t.axis 0).stepPin, (t.axis 0).dirPin, t.clock))
    = some (false, false, 40) := by decide +kernel

/-- A Stop Axis taken after the expiry of the silence timer finds the axis in FAULT and is refused with STATE (R161). -/
theorem test_request_meets_the_fault_of_silence :
    look (exec .stopAxis (asks { held none [] with silencePending := true } 0x25 [0, 1, 0])) (fun t =>
      ((t.axis 0).st, (t.axis 0).silencePending, t.link.replySlot.map (·.reply.payload)))
    = some (.fault, false, some [5]) := by decide +kernel

/-- A limit that held low for its filter time of 4 µs and has returned, asked to change its filter before that delivery is taken: the
delivery stays due, and the return is timed after it under the new filter (R169, R173). -/
theorem test_due_delivery_survives_a_new_filter :
    (InputLine.mk true true (some 16)).retime 16 256 = ⟨true, true, some 16⟩
    ∧ ((InputLine.mk true true (some 16)).rawChange 17 256 false).deliver 17 256 = ⟨false, false, none⟩
    ∧ (InputLine.mk true true (some 16)).deliver 17 256 = ⟨true, false, some 273⟩
    ∧ (InputLine.mk false true (some 16)).retime 15 256 = ⟨false, true, some 271⟩ := by decide

/-! ## Hypotheses of the invariants: a state before the last arrival at a barrier -/

theorem test_meets_EveryStepKeepsTheSegmentStore : meeting.poolWf ∧ meeting.quotaWf ∧ meeting.refCountWf := by
  refine ⟨by unfold State.poolWf; decide, by unfold State.quotaWf; decide, meeting_refCountWf⟩

theorem test_meets_EveryStepKeepsTheReportQueue : (twoReports true 4).queueWf ∧ (twoReports true 4).marksWf := by
  refine ⟨⟨by decide, ⟨by decide, by decide, trivial⟩, by decide, by decide⟩, ⟨⟨by decide, by decide, trivial⟩, ⟨by decide, by decide, trivial⟩, by decide, by decide⟩⟩

theorem test_meets_EveryStepComesToRest : meeting.refCountWf ∧ meeting.axesWf ∧ meeting.restWf := by
  refine ⟨meeting_refCountWf, meeting_axesWf, by decide, fun a => ?_, by decide⟩
  fin_cases a
  · exact nofun
  · exact fun _ => ⟨0, rfl, rfl⟩
  · exact nofun
  · exact nofun

theorem test_meets_EveryStepKeepsValuesInRange : meeting.stepsWf ∧ meeting.link.wf ∧ meeting.settingsWf := by
  refine ⟨fun a => ?_, by unfold Link.wf; decide, ?_⟩
  · have h : (meeting.axis a).ctx = none ∧ (meeting.axis a).output.turnTo = none := by fin_cases a <;> exact ⟨rfl, rfl⟩
    exact ⟨fun c k => by simp [h.1] at k, fun k => by simp [h.2] at k⟩
  · unfold State.settingsWf AxisSettings.wf
    decide

end Sys2Proof.Tests
end

/-!
PROOF. The brake step count and the steps of a brake (R52, R53).
-/

namespace Sys2Proof.Machine

/-! ## The brake step count (R53) -/

theorem brakeCount_of_le {c B : Nat} (D : Nat) (h : c ≤ B) : brakeCount c B D = 0 := if_pos h

theorem brakeCount_of_lt {c B : Nat} (D : Nat) (h : B < c) : brakeCount c B D = (c - B - 1) / D :=
  if_neg (Nat.not_le.mpr h)

/-- The rates fall with j, so the steps above the base rate are the first N: above it, step j has its rate above B exactly when
j·D ≤ c − B − 1, and that is j ≤ (c − B − 1) / D. -/
theorem le_brakeCount_iff {c B D j : Nat} (hD : 1 ≤ D) (hj : 1 ≤ j) : j ≤ brakeCount c B D ↔ B < c - j * D := by
  rcases Nat.lt_or_ge B c with above | below
  · calc j ≤ brakeCount c B D
      _ ↔ j * D ≤ c - B - 1 := by rw [brakeCount_of_lt D above, Nat.le_div_iff_mul_le hD]
      _ ↔ B < c - j * D := by omega
  · rw [brakeCount_of_le D below]
    omega

/-- A brake rate lies above the base rate, and the base rate is at least 16 (R53, R168). -/
theorem brakeRate_ge {c B D j : Nat} (hD : 1 ≤ D) (hB : 16 ≤ B) (hj : 1 ≤ j) (hle : j ≤ brakeCount c B D) :
    17 ≤ c - j * D :=
  have above : B < c - j * D := (le_brakeCount_iff hD hj).mp hle
  Nat.lt_of_le_of_lt hB above

/-! ## The steps of a brake (R52, R53) -/

theorem Ctx.beginBrake_eq (ph : Phase) (rate : Nat) (set : AxisSettings) (c : Ctx) :
    c.beginBrake ph rate set =
      { c with phase := ph, delayed := none, brake := some ⟨rate, 0, brakeCount rate set.baseRate set.decrement⟩ } := (rfl)

theorem Ctx.nextRate_of_brake {set : AxisSettings} {c : Ctx} {b : Brake} (hp : c.phase = .brake ∨ c.phase = .settle)
    (hb : c.brake = some b) : c.nextRate set = b.start - (b.issued + 1) * set.decrement := by
  rcases hp with hp | hp <;> simp [Ctx.nextRate, hp, hb]

theorem Ctx.hasNextStep_iff_of_brake {c : Ctx} {b : Brake} (hp : c.phase = .brake ∨ c.phase = .settle)
    (hb : c.brake = some b) :
    c.hasNextStep = true ↔ c.seg.body.makesSteps = true ∧ c.stepsDone < c.seg.body.total ∧ b.issued < b.count := by
  rcases hp with hp | hp <;> simp [Ctx.hasNextStep, hp, hb, and_assoc]

/-- Settles O5: the count from the division bound, the course of a brake from the equations of its context. -/
theorem brakeCountIsTheStepsAboveTheBaseRate : Obligations.BrakeCountIsTheStepsAboveTheBaseRate :=
  ⟨fun _ _ _ hD _ hj => le_brakeCount_iff hD hj,
    fun _ _ D => brakeCount_of_le D,
    fun _ _ D _ => brakeCount_of_lt D,
    fun _ _ _ _ => brakeRate_ge,
    Ctx.beginBrake_eq,
    fun _ _ _ hp hb => ⟨Ctx.nextRate_of_brake hp hb, Ctx.hasNextStep_iff_of_brake hp hb⟩⟩

end Sys2Proof.Machine

/-!
PROOF. The go-back (R143), and two events that perform it: Replay Reports (R145) and the expiry of the retransmit timer (R142).
-/

namespace Sys2Proof.Machine

/-! ## The Report Unit after a go-back (R136, R141, R143) -/

/-- The count of R136 is 0 exactly because no mark is left to count. -/
@[simp] theorem ReportUnit.inFlightCount_goBack (r : ReportUnit) : r.goBack.inFlightCount = 0 := by
  have unmarked : ∀ e ∈ r.goBack.queue, ¬ e.inFlight = true := fun e he => by simp [r.inFlight_goBack e he]
  rw [ReportUnit.inFlightCount, List.filter_eq_nil_iff.mpr unmarked, List.length_nil]

/-- In a queue without in-flight marks, the oldest entry not in flight is the oldest entry. -/
theorem find?_notInFlight_of_unmarked {q : List Entry} (unmarked : ∀ e ∈ q, e.inFlight = false) :
    q.find? (fun e => !e.inFlight) = q.head? := by
  cases q with
  | nil => rfl
  | cons e q => rw [List.find?_cons_of_pos (by simp [unmarked e]), List.head?_cons]

/-- The window is open after a go-back, since it is at least 1 and nothing is in flight (R141). -/
theorem ReportUnit.offered_goBack {r : ReportUnit} (streams : r.streaming = true) (window : 1 ≤ r.window) :
    r.goBack.offered = r.goBack.queue.head? := by
  have isOpen : (r.goBack.streaming && decide (r.goBack.inFlightCount < r.goBack.window)) = true := by
    rw [r.inFlightCount_goBack, r.window_goBack]
    exact Bool.and_eq_true_iff.mpr ⟨streams, decide_eq_true window⟩
  rw [ReportUnit.offered, if_pos isOpen, find?_notInFlight_of_unmarked r.inFlight_goBack]

/-! ## Replay Reports (R145) -/

theorem replayReports_nil (s : State) :
    replayReports [] s = (s.setReports s.reports.goBack, [0, BitVec.ofNat 8 s.reports.queue.length]) :=
  checkLength_of_eq rfl

theorem execReplayReports_of_offers {s : State} {f : Frame} {rest : List Frame} (offered : s.offers f rest)
    (code : f.code = 0x42) (payload : f.payload = []) :
    execReplayReports s = .next ((s.setReports s.reports.goBack).answered f rest [0, BitVec.ofNat 8 s.reports.queue.length]) := by
  refine congrArg Host.Outcome.next (State.takeRequest_answered offered code ?_ rfl rfl)
  rw [payload, replayReports_nil, State.reports_takeFrame, s.takeFrame_withLink, State.withLink_setReports, State.link_withLink]

/-! ## The retransmit timer (R142) -/

/-- No time passes until a time in µs that has come. -/
theorem State.passToMicros_of_le (s : State) {t : Nat} (h : t ≤ s.micros) : s.passToMicros t = s :=
  s.passTo_of_le ((Nat.le_div_iff_mul_le (by decide)).mp h)

theorem execRetransmitTimerExpiry_of_due {s : State} {t : Nat} (runs : s.reports.timer = some t) (due : t ≤ s.micros) :
    execRetransmitTimerExpiry s =
      .next ((s.setReports s.reports.goBack).modCounters fun c => { c with retransmits := satInc c.retransmits }) := by
  simp only [execRetransmitTimerExpiry, runs, s.passToMicros_of_le due]

/-- Settles O37: the marks and the offer from the Report Unit's own equations, its two causes from what each of them executes. -/
theorem goBackClearsTheInFlightMarks : Obligations.GoBackClearsTheInFlightMarks :=
  ⟨fun r => ⟨rfl, r.inFlightCount_goBack, ReportUnit.offered_goBack⟩,
    fun _ _ _ => execReplayReports_of_offers,
    fun _ _ => execRetransmitTimerExpiry_of_due⟩

end Sys2Proof.Machine

/-!
PROOF. Two requests of the Command Link: Configure Link (R162) and No Operation (R164).
-/

namespace Sys2Proof.Machine

/-! ## Numbers in bytes (R180) -/

@[simp] theorem length_leBytes (k n : Nat) : (leBytes k n).length = k := by
  induction k generalizing n with
  | zero => rfl
  | succ k ih => rw [leBytes, List.length_cons, ih]

theorem leNat_leBytes {k n : Nat} (h : n < 256 ^ k) : leNat (leBytes k n) = n := by
  induction k generalizing n with
  | zero => exact (Nat.lt_one_iff.mp h).symm
  | succ k ih =>
    have high : n / 256 < 256 ^ k := Nat.div_lt_of_lt_mul (Nat.pow_succ' ▸ h)
    rw [leBytes, leNat, ih high, BitVec.toNat_ofNat]
    exact Nat.mod_add_div n 256

/-- A payload that is one number, read back. -/
theorem field_leBytes {k n : Nat} (h : n < 256 ^ k) : field (leBytes k n) 0 k = n := by
  rw [field, List.drop_zero, List.take_of_length_le (length_leBytes k n).le, leNat_leBytes h]

/-! ## A request that leaves the state (R156, R157) -/

/-- A handler that gives back the state it is run on, with a refusal or an answer, comes to that answer alone. -/
theorem State.takeRequest_of_unchanged {s : State} {f : Frame} {rest : List Frame} {code : Byte} {h : Handler} {p : List Byte}
    (offered : s.offers f rest) (c : f.code = code) (e : h f.payload (s.takeFrame rest) = (s.takeFrame rest, p)) :
    s.takeRequest code h = s.answered f rest p := by
  rw [State.takeRequest_of_offers h offered c, e, State.placeReply_takeFrame]

/-! ## No Operation (R164) -/

theorem noOperation_of_le {p : List Byte} (h : p.length ≤ 32) (s : State) : noOperation p s = (s, 0 :: p) :=
  if_neg (Nat.not_lt.mpr h)

theorem noOperation_of_lt {p : List Byte} (h : 32 < p.length) (s : State) : noOperation p s = (s, [2]) := if_pos h

/-- Settles O40: both answers leave the state they are given. -/
theorem noOperationEchoesItsPayload : Obligations.NoOperationEchoesItsPayload := fun _ _ _ offered code =>
  ⟨fun short => congrArg Host.Outcome.next (State.takeRequest_of_unchanged offered code (noOperation_of_le short _)),
    fun long => congrArg Host.Outcome.next (State.takeRequest_of_unchanged offered code (noOperation_of_lt long _))⟩

/-! ## Configure Link (R162) -/

/-- `s` with the silence timeout `T`, in ms, and its timer: what Configure Link sets. -/
def State.withSilence (s : State) (T : Nat) (timer : Option Nat) : State :=
  s.modLink fun l => { l with silenceTimeout := T, silenceTimer := timer }

/-- The setting takes the place of the restart by the taken frame (R161), and the answer is otherwise the same. -/
theorem State.placeReply_withSilence_takeFrame (s : State) (f : Frame) (rest : List Frame) (p : List Byte) (T : Nat)
    (timer : Option Nat) : ((s.takeFrame rest).withSilence T timer).placeReply f p = (s.answered f rest p).withSilence T timer := by
  rw [State.takeFrame_eq]
  rfl

/-- A timeout just set, and not 0, runs in full from now (R161). -/
theorem State.restartSilence_of_set (s : State) {T : Nat} (h : T ≠ 0) :
    (s.modLink fun l => { l with silenceTimeout := T }).restartSilence = s.withSilence T (some (s.micros + T * 1000)) :=
  if_neg h

/-- Check 2 of R157 passed and the timeout read: the three cases that are left to Configure Link. -/
theorem configureLink_leBytes {T : Nat} (h : T < 65536) (s : State) :
    configureLink (leBytes 2 T) s =
      if T = 0 then (s.withSilence 0 none, 0 :: leBytes 2 T)
      else if T < 10 || 10000 < T then (s, [4])
      else ((s.modLink fun l => { l with silenceTimeout := T }).restartSilence, 0 :: leBytes 2 T) := by
  rw [configureLink, checkLength_of_eq (length_leBytes 2 T), field_leBytes h]
  rfl

theorem configureLink_zero (s : State) : configureLink (leBytes 2 0) s = (s.withSilence 0 none, [0, 0, 0]) :=
  configureLink_leBytes (by decide) s

theorem configureLink_of_inRange {T : Nat} (low : 10 ≤ T) (high : T ≤ 10000) (s : State) :
    configureLink (leBytes 2 T) s = (s.withSilence T (some (s.micros + T * 1000)), 0 :: leBytes 2 T) := by
  have nonzero : T ≠ 0 := by omega
  have inRange : ¬ (T < 10 || 10000 < T) = true := by simp [low, high]
  rw [configureLink_leBytes (by omega), if_neg nonzero, if_neg inRange, s.restartSilence_of_set nonzero]

theorem configureLink_of_outOfRange {T : Nat} (h : T < 65536) (nonzero : 1 ≤ T) (out : T < 10 ∨ 10000 < T) (s : State) :
    configureLink (leBytes 2 T) s = (s, [4]) := by
  have outOfRange : (T < 10 || 10000 < T) = true := by simpa using out
  rw [configureLink_leBytes h, if_neg (by omega), if_pos outOfRange]

/-- What an accepted Configure Link comes to as a whole: the answer, with the new silence timeout and its timer. -/
theorem execConfigureLink_of_set {s : State} {f : Frame} {rest : List Frame} {T : Nat} {timer : Option Nat} {p : List Byte}
    (offered : s.offers f rest) (code : f.code = 0x50)
    (e : configureLink f.payload (s.takeFrame rest) = ((s.takeFrame rest).withSilence T timer, p)) :
    execConfigureLink s = .next ((s.answered f rest p).withSilence T timer) := by
  rw [execConfigureLink, State.takeRequest_of_offers _ offered code, e, State.placeReply_withSilence_takeFrame]

/-- Settles O38: the three ranges of the timeout, each from what Configure Link does in it. -/
theorem configureLinkSetsTheSilenceTimeout : Obligations.ConfigureLinkSetsTheSilenceTimeout := by
  intro s f rest T offered code payload bound
  refine ⟨?stopped, ?accepted, ?refused⟩
  case stopped =>
    rintro rfl
    exact ⟨_, execConfigureLink_of_set offered code (payload ▸ configureLink_zero _), rfl⟩
  case accepted =>
    intro low high
    have sets := configureLink_of_inRange low high (s.takeFrame rest)
    rw [State.micros_takeFrame] at sets
    exact execConfigureLink_of_set offered code (payload ▸ sets)
  case refused =>
    intro nonzero out
    exact congrArg Host.Outcome.next
      (State.takeRequest_of_unchanged offered code (payload ▸ configureLink_of_outOfRange bound nonzero out _))

end Sys2Proof.Machine

/-!
PROOF. The Report Unit's own invariants (R139, R141): what a new report, a frame begun, a go-back and an acknowledgement do to the
order of the queue and to its marks.
-/

namespace Sys2Proof.Machine

/-! ## Sequences and the Overflow entry (R138, R139) -/

theorem consecutive_append {q : List Entry} {next : Word16} (h : consecutive q next) {e : Entry} (seq : e.seq = next) :
    consecutive (q ++ [e]) (next + 1) := by
  induction q with
  | nil => exact ⟨by simp [seq], trivial⟩
  | cons x q ih =>
    obtain ⟨first, others⟩ := h
    refine ⟨?_, ih others⟩
    have len : (q ++ [e]).length + 1 = q.length + 1 + 1 := by simp
    calc x.seq + BitVec.ofNat 16 ((q ++ [e]).length + 1)
      _ = x.seq + (BitVec.ofNat 16 (q.length + 1) + 1) := by rw [len]; exact congrArg (x.seq + ·) (BitVec.ofNat_add _ 1)
      _ = next + 1 := by rw [← BitVec.add_assoc, first]

theorem consecutive_map {f : Entry → Entry} (keep : ∀ e, (f e).seq = e.seq) (q : List Entry) (next : Word16) :
    consecutive (q.map f) next ↔ consecutive q next := by
  induction q with
  | nil => exact Iff.rfl
  | cons e q ih => simp [consecutive, keep, ih]

theorem consecutive_of_append {p q : List Entry} {next : Word16} (h : consecutive (p ++ q) next) : consecutive q next := by
  induction p with
  | nil => exact h
  | cons e p ih => exact ih h.2

/-- A change of entries that keeps their sequences and which of them is the Overflow. -/
theorem ReportUnit.queueWf_map {r t : ReportUnit} {f : Entry → Entry} (seq : ∀ e, (f e).seq = e.seq)
    (kind : ∀ e, (f e).body.isOverflow = e.body.isOverflow) (queue : t.queue = r.queue.map f) (next : t.nextSeq = r.nextSeq)
    (h : r.queueWf) : t.queueWf := by
  obtain ⟨len, order, newest, room⟩ := h
  rw [ReportUnit.queueWf, queue, next, consecutive_map seq, ← List.map_dropLast]
  simp only [List.length_map, List.forall_mem_map, kind]
  exact ⟨len, order, newest, room⟩

/-- An entry appended under the next sequence, behind entries that are no Overflow. -/
theorem ReportUnit.queueWf_append {r : ReportUnit} {time : Word32} {body : ReportBody} (h : r.queueWf)
    (plain : ∀ e ∈ r.queue, e.body.isOverflow = false) (room : r.queue.length < 31 ∨ body.isOverflow = true) :
    (r.append time body).queueWf := by
  obtain ⟨-, order, -, short⟩ := h
  have len : r.queue.length < 32 := short plain
  refine ⟨?_, consecutive_append order rfl, ?_, ?_⟩
  · simpa [ReportUnit.append, Config.reportEntries] using len
  · simpa [ReportUnit.append] using plain
  · intro none
    rcases room with room | lost
    · simp only [ReportUnit.append, List.length_append, List.length_singleton, Config.reportEntries]
      omega
    · exact absurd (none _ (List.mem_append_right _ (List.mem_singleton_self _))) (by simp [lost])

theorem ReportUnit.queueWf_create {r : ReportUnit} (time : Word32) (body : ReportBody) (h : r.queueWf) :
    (r.create time body).queueWf := by
  obtain ⟨-, e⟩ | ⟨plain, room, e⟩ | ⟨plain, -, e⟩ := r.create_cases time body
  · exact r.queueWf_map (fun e => (e.countLost_frame body).1) (fun e => (e.countLost_frame body).2.2.2.2) (by rw [e]) (by rw [e]) h
  · exact e ▸ r.queueWf_append h plain (.inl room)
  · exact e ▸ r.queueWf_append h plain (.inr rfl)

/-! ## Marks at the front (R141) -/

theorem onlyAtFront_append {p : Entry → Bool} {q : List Entry} {e : Entry} (h : onlyAtFront p q) (clear : p e = false) :
    onlyAtFront p (q ++ [e]) := by
  induction q with
  | nil => exact ⟨fun _ => by simp, trivial⟩
  | cons x q ih =>
    refine ⟨fun px y hy => ?_, ih h.2⟩
    rcases List.mem_append.mp hy with hy | hy
    · exact h.1 px y hy
    · rw [List.mem_singleton.mp hy, clear]

theorem onlyAtFront_map {p : Entry → Bool} {f : Entry → Entry} (keep : ∀ e, p (f e) = p e) (q : List Entry) :
    onlyAtFront p (q.map f) ↔ onlyAtFront p q := by
  induction q with
  | nil => exact Iff.rfl
  | cons e q ih => simp [onlyAtFront, keep, ih]

theorem onlyAtFront_of_append {p : Entry → Bool} {q q' : List Entry} (h : onlyAtFront p (q ++ q')) : onlyAtFront p q' := by
  induction q with
  | nil => exact h
  | cons e q ih => exact ih h.2

theorem onlyAtFront_of_none {p : Entry → Bool} {q : List Entry} (h : ∀ e ∈ q, p e = false) : onlyAtFront p q := by
  induction q with
  | nil => trivial
  | cons e q ih =>
    have others : ∀ e' ∈ q, p e' = false := fun e' m => h e' (List.mem_cons_of_mem _ m)
    exact ⟨fun _ => others, ih others⟩

/-- A change of entries that keeps both marks. -/
theorem ReportUnit.marksWf_map {r t : ReportUnit} {f : Entry → Entry} (flight : ∀ e, (f e).inFlight = e.inFlight)
    (sent : ∀ e, (f e).onceSent = e.onceSent) (queue : t.queue = r.queue.map f) (window : t.window = r.window)
    (h : r.marksWf) : t.marksWf := by
  obtain ⟨front, once, room, both⟩ := h
  have count : t.inFlightCount = r.inFlightCount := by
    simp [ReportUnit.inFlightCount, queue, List.filter_map, Function.comp_def, flight]
  rw [ReportUnit.marksWf, count, queue, window, onlyAtFront_map flight, onlyAtFront_map sent]
  refine ⟨front, once, room, ?_⟩
  simpa only [List.forall_mem_map, flight, sent] using both

theorem ReportUnit.marksWf_append {r : ReportUnit} (time : Word32) (body : ReportBody) (h : r.marksWf) :
    (r.append time body).marksWf := by
  obtain ⟨front, once, room, both⟩ := h
  refine ⟨onlyAtFront_append front rfl, onlyAtFront_append once rfl, ?_, fun e he marked => ?_⟩
  · simpa [ReportUnit.inFlightCount, ReportUnit.append] using room
  · rcases List.mem_append.mp he with he | he
    · exact both e he marked
    · rw [List.mem_singleton.mp he] at marked
      cases marked

theorem ReportUnit.marksWf_create {r : ReportUnit} (time : Word32) (body : ReportBody) (h : r.marksWf) :
    (r.create time body).marksWf := by
  obtain ⟨-, e⟩ | ⟨-, -, e⟩ | ⟨-, -, e⟩ := r.create_cases time body
  · exact r.marksWf_map (fun e => (e.countLost_frame body).2.2.1) (fun e => (e.countLost_frame body).2.2.2.1) (by rw [e]) (by rw [e]) h
  · exact e ▸ r.marksWf_append time body h
  · exact e ▸ r.marksWf_append time _ h

/-! ## A frame begun (R141) -/

/-- Exactly one entry is in flight more, if one was not. -/
theorem length_inFlight_markSent_le (q : List Entry) :
    ((markSent q).filter (·.inFlight)).length ≤ (q.filter (·.inFlight)).length + 1 := by
  induction q with
  | nil => simp [markSent]
  | cons e q ih =>
    cases h : e.inFlight
    · simp [markSent, h]
    · simpa [markSent, h] using ih

/-- The entry sent is the oldest one not in flight, so the marks stay at the front, and it has both of them. -/
theorem marks_markSent {q : List Entry} (front : onlyAtFront (·.inFlight) q) (once : onlyAtFront (·.onceSent) q)
    (both : ∀ e ∈ q, e.inFlight = true → e.onceSent = true) :
    onlyAtFront (·.inFlight) (markSent q) ∧ onlyAtFront (·.onceSent) (markSent q)
      ∧ ∀ e ∈ markSent q, e.inFlight = true → e.onceSent = true := by
  induction q with
  | nil => exact ⟨trivial, trivial, both⟩
  | cons e q ih =>
    have rest : ∀ x ∈ q, x.inFlight = true → x.onceSent = true := fun x hx => both x (List.mem_cons_of_mem _ hx)
    cases h : e.inFlight with
    | false =>
      refine ⟨?_, ?_, ?_⟩ <;> simp only [markSent, h, Bool.false_eq_true, if_false]
      · exact ⟨fun marked => by simp at marked, front.2⟩
      · exact ⟨fun marked => by simp at marked, once.2⟩
      · simpa using rest
    | true =>
      obtain ⟨front', once', both'⟩ := ih front.2 once.2 rest
      have sent : e.onceSent = true := both e (List.mem_cons_self ..) h
      refine ⟨?_, ?_, ?_⟩ <;> simp only [markSent, h, if_true]
      · exact ⟨fun clear => by simp [h] at clear, front'⟩
      · exact ⟨fun clear => by simp [sent] at clear, once'⟩
      · simpa [sent] using both'

theorem consecutive_markSent {q : List Entry} {next : Word16} : consecutive (markSent q) next ↔ consecutive q next := by
  have len : ∀ q, (markSent q).length = q.length := by
    intro q
    induction q with
    | nil => rfl
    | cons e q ih => cases h : e.inFlight <;> simp [markSent, h, ih]
  induction q with
  | nil => exact Iff.rfl
  | cons e q ih => cases h : e.inFlight <;> simp [markSent, h, consecutive, ih, len]

/-- Marking changes no body, so it changes nothing that is said of the bodies alone. -/
theorem map_body_markSent (q : List Entry) : (markSent q).map (·.body) = q.map (·.body) := by
  induction q with
  | nil => rfl
  | cons e q ih => cases h : e.inFlight <;> simp [markSent, h, ih]

/-- The order of a queue, read off its bodies. -/
theorem ReportUnit.queueWf_iff (r : ReportUnit) :
    r.queueWf ↔ (r.queue.map (·.body)).length ≤ 32 ∧ consecutive r.queue r.nextSeq
      ∧ (∀ b ∈ (r.queue.map (·.body)).dropLast, b.isOverflow = false)
      ∧ ((∀ b ∈ r.queue.map (·.body), b.isOverflow = false) → (r.queue.map (·.body)).length < 32) := by
  simp only [← List.map_dropLast, List.forall_mem_map, List.length_map]
  exact Iff.rfl

theorem ReportUnit.queueWf_send {r : ReportUnit} (now : Nat) (h : r.queueWf) : (r.send now).queueWf := by
  rw [ReportUnit.queueWf_iff] at h ⊢
  rwa [show (r.send now).queue = markSent r.queue from rfl, map_body_markSent, consecutive_markSent]

theorem ReportUnit.marksWf_send {r : ReportUnit} (now : Nat) (room : r.inFlightCount < r.window) (h : r.marksWf) :
    (r.send now).marksWf := by
  obtain ⟨front, once, -, both⟩ := h
  obtain ⟨front', once', both'⟩ := marks_markSent front once both
  exact ⟨front', once', (length_inFlight_markSent_le r.queue).trans room, both'⟩

/-! ## A go-back (R143) and an acknowledgement (R144) -/

theorem ReportUnit.queueWf_goBack {r : ReportUnit} (h : r.queueWf) : r.goBack.queueWf :=
  r.queueWf_map (f := fun e => { e with inFlight := false }) (fun _ => rfl) (fun _ => rfl) rfl rfl h

/-- After a go-back, whatever the window. -/
theorem ReportUnit.marksWf_of_goBack {r t : ReportUnit} (queue : t.queue = r.goBack.queue) (h : r.marksWf) : t.marksWf := by
  obtain ⟨-, once, -, -⟩ := h
  have clear : ∀ e ∈ t.queue, e.inFlight = false := queue ▸ r.inFlight_goBack
  refine ⟨onlyAtFront_of_none clear, ?_, ?_, fun e he marked => by simp [clear e he] at marked⟩
  · rw [queue]
    exact (onlyAtFront_map (p := (·.onceSent)) (f := fun e => { e with inFlight := false }) (fun _ => rfl) r.queue).mpr once
  · rw [show t.inFlightCount = r.goBack.inFlightCount by simp [ReportUnit.inFlightCount, queue], ReportUnit.inFlightCount_goBack]
    exact Nat.zero_le _

/-- An acknowledgement removes the entries through the one it names, at least that one. -/
theorem splitAck_append {n : Word16} {q removed left : List Entry} (h : splitAck n q = some (removed, left)) :
    q = removed ++ left ∧ removed ≠ [] := by
  induction q generalizing removed left with
  | nil => cases h
  | cons e q ih =>
    rw [splitAck] at h
    split at h
    · split at h
      · cases h
        exact ⟨rfl, by simp⟩
      · cases h
    · cases k : splitAck n q with
      | none => simp [k] at h
      | some r =>
        simp only [k, Option.map_some, Option.some.injEq, Prod.mk.injEq] at h
        obtain ⟨rfl, rfl⟩ := h
        exact ⟨by rw [(ih k).1, List.cons_append], by simp⟩

theorem ReportUnit.queueWf_of_suffix {r t : ReportUnit} {removed : List Entry} (queue : r.queue = removed ++ t.queue)
    (some : removed ≠ []) (next : t.nextSeq = r.nextSeq) (h : r.queueWf) : t.queueWf := by
  obtain ⟨len, order, newest, -⟩ := h
  have shorter : t.queue.length < Config.reportEntries := by
    have := List.length_pos_iff.mpr some
    simp only [queue, List.length_append] at len
    omega
  refine ⟨shorter.le, next ▸ consecutive_of_append (queue ▸ order), fun e he => newest e ?_, fun _ => shorter⟩
  have nonempty : t.queue ≠ [] := by
    rintro empty
    simp [empty] at he
  rw [queue, List.dropLast_append_of_ne_nil nonempty]
  exact List.mem_append_right _ he

theorem ReportUnit.marksWf_of_suffix {r t : ReportUnit} {removed : List Entry} (queue : r.queue = removed ++ t.queue)
    (window : t.window = r.window) (h : r.marksWf) : t.marksWf := by
  obtain ⟨front, once, room, both⟩ := h
  refine ⟨onlyAtFront_of_append (queue ▸ front), onlyAtFront_of_append (queue ▸ once), ?_,
    fun e he => both e (queue ▸ List.mem_append_right _ he)⟩
  rw [window]
  refine le_trans ?_ room
  simp [ReportUnit.inFlightCount, queue]

end Sys2Proof.Machine

/-!
PROOF. What every step keeps of the stores (R5, R6, R99), the Report Unit (R139, R141), the link (R153, R163) and the settings
(R98, R130, R146, R161, R168). `State.keeps` collects these invariants in one relation that is closed under composition, so that each
operation of the model is met once; beside them it says that the commands that wait stay.
-/

namespace Sys2Proof.Machine

/-- `t` has every one of these invariants that `s` has, and the same commands waiting. -/
structure State.keeps (s t : State) : Prop where
  commands : t.pending = s.pending ∧ t.freeCount = s.freeCount
  pool : s.poolWf → t.poolWf
  quota : s.quotaWf → t.quotaWf
  refs : s.refCountWf → t.refCountWf
  order : s.reports.queueWf → t.reports.queueWf
  marks : s.reports.marksWf → t.reports.marksWf
  link : s.link.wf → t.link.wf
  settings : s.settingsWf → t.settingsWf

theorem State.keeps.refl (s : State) : s.keeps s := ⟨⟨rfl, rfl⟩, id, id, id, id, id, id, id⟩

theorem State.keeps.trans {s t u : State} (h : s.keeps t) (k : t.keeps u) : s.keeps u :=
  ⟨⟨k.commands.1.trans h.commands.1, k.commands.2.trans h.commands.2⟩, k.pool ∘ h.pool, k.quota ∘ h.quota, k.refs ∘ h.refs,
    k.order ∘ h.order, k.marks ∘ h.marks, k.link ∘ h.link, k.settings ∘ h.settings⟩

/-! ## Changes that touch no store -/

/-- The same queue, limits and settings of an axis. -/
structure Axis.sameStore (x y : Axis) : Prop where
  queue : y.queue = x.queue
  quota : y.quota = x.quota
  threshold : y.threshold = x.threshold
  settings : y.settings = x.settings
  protection : y.protection = x.protection

/-- The same definition and references of a group. -/
structure Group.sameEntry (x y : Group) : Prop where
  members : y.members = x.members
  refCount : y.refCount = x.refCount
  timeout : y.timeout = x.timeout

/-- A change of the Report Unit that keeps its order, marks and settings. -/
structure ReportUnit.keeps (r t : ReportUnit) : Prop where
  order : r.queueWf → t.queueWf
  marks : r.marksWf → t.marksWf
  window : t.window = r.window
  timeout : t.timeout = r.timeout

/-- A change of the link that keeps its ranges and its silence timeout. -/
structure Link.keeps (l k : Link) : Prop where
  range : l.wf → k.wf
  silence : k.silenceTimeout = l.silenceTimeout

theorem Axis.sameStore.refl (x : Axis) : x.sameStore x := ⟨rfl, rfl, rfl, rfl, rfl⟩
theorem Axis.sameStore.trans {x y z : Axis} (h : x.sameStore y) (k : y.sameStore z) : x.sameStore z :=
  ⟨k.1.trans h.1, k.2.trans h.2, k.3.trans h.3, k.4.trans h.4, k.5.trans h.5⟩
theorem Group.sameEntry.refl (x : Group) : x.sameEntry x := ⟨rfl, rfl, rfl⟩
theorem ReportUnit.keeps.refl (r : ReportUnit) : r.keeps r := ⟨id, id, rfl, rfl⟩
theorem Link.keeps.refl (l : Link) : l.keeps l := ⟨id, rfl⟩

theorem ReportUnit.keeps_create (r : ReportUnit) (time : Word32) (body : ReportBody) : r.keeps (r.create time body) :=
  ⟨r.queueWf_create time body, r.marksWf_create time body, by simp, by simp⟩

theorem ReportUnit.keeps_goBack (r : ReportUnit) : r.keeps r.goBack :=
  ⟨r.queueWf_goBack, r.marksWf_of_goBack rfl, rfl, rfl⟩

theorem ReportUnit.keeps_send {r : ReportUnit} (now : Nat) (room : r.inFlightCount < r.window) : r.keeps (r.send now) :=
  ⟨r.queueWf_send now, r.marksWf_send now room, rfl, rfl⟩

/-- A change that leaves every store as it is. -/
structure State.quiet (s t : State) : Prop where
  commands : t.pending = s.pending ∧ t.freeCount = s.freeCount
  axes : ∀ a, (s.axis a).sameStore (t.axis a)
  groups : ∀ g, (s.group g).sameEntry (t.group g)
  pool : t.poolFree = s.poolFree
  reports : s.reports.keeps t.reports
  link : s.link.keeps t.link

/-- Three of the queue invariants read the queues, the limits and the groups alone. -/
theorem State.quiet.keeps {s t : State} (h : s.quiet t) : s.keeps t where
  commands := h.commands
  pool w := by simpa only [State.poolWf, Axis.depth, h.pool, (h.axes _).queue] using w
  quota w := by simpa only [State.quotaWf, Axis.depth, (h.axes _).queue, (h.axes _).quota, (h.axes _).threshold] using w
  refs w := by simpa only [State.refCountWf, (h.axes _).queue, (h.groups _).refCount, (h.groups _).members] using w
  order := h.reports.order
  marks := h.reports.marks
  link := h.link.range
  settings w := by
    simpa only [State.settingsWf, (h.axes _).settings, (h.axes _).protection, (h.groups _).members, (h.groups _).timeout,
      h.reports.window, h.reports.timeout, h.link.silence] using w

theorem State.quiet.refl (s : State) : s.quiet s := ⟨⟨rfl, rfl⟩, fun _ => .refl _, fun _ => .refl _, rfl, .refl _, .refl _⟩

/-! ## The homes -/

theorem State.quiet_setAxis (s : State) {a : AxisId} {x : Axis} (h : (s.axis a).sameStore x) : s.quiet (s.setAxis a x) :=
  { State.quiet.refl s with
    axes := fun b => by
      rw [State.axis_setAxis]
      split
      · next e => exact e ▸ h
      · exact .refl _ }

theorem State.keeps_setAxis (s : State) {a : AxisId} {x : Axis}
    (h : (s.axis a).sameStore x := by exact ⟨rfl, rfl, rfl, rfl, rfl⟩) : s.keeps (s.setAxis a x) :=
  (s.quiet_setAxis h).keeps

theorem State.keeps_modAxis (s : State) (a : AxisId) {f : Axis → Axis}
    (h : ∀ x : Axis, x.sameStore (f x) := by exact fun _ => ⟨rfl, rfl, rfl, rfl, rfl⟩) : s.keeps (s.modAxis a f) :=
  s.keeps_setAxis (h _)

theorem State.keeps_modAxes (s : State) {f : AxisId → Axis → Axis}
    (h : ∀ (a : AxisId) (x : Axis), x.sameStore (f a x) := by exact fun _ _ => ⟨rfl, rfl, rfl, rfl, rfl⟩) : s.keeps (s.modAxes f) :=
  State.quiet.keeps { State.quiet.refl s with axes := fun a => by rw [State.axis_modAxes]; exact h a _ }

theorem State.keeps_setGroup (s : State) {g : GroupId} {x : Group}
    (h : (s.group g).sameEntry x := by exact ⟨rfl, rfl, rfl⟩) : s.keeps (s.setGroup g x) :=
  State.quiet.keeps { State.quiet.refl s with
    groups := fun k => by
      rw [State.group_setGroup]
      split
      · next e => exact e ▸ h
      · exact .refl _ }

theorem State.keeps_setReports (s : State) {r : ReportUnit} (h : s.reports.keeps r) : s.keeps (s.setReports r) :=
  State.quiet.keeps { State.quiet.refl s with reports := h }

theorem State.keeps_report (s : State) (b : ReportBody) : s.keeps (s.report b) := s.keeps_setReports (s.reports.keeps_create _ b)

theorem State.keeps_report? (s : State) (b : Option ReportBody) : s.keeps (s.report? b) := by
  cases b with
  | none => exact .refl s
  | some b => exact s.keeps_report b

theorem State.keeps_modLink (s : State) {f : Link → Link} (h : s.link.keeps (f s.link)) : s.keeps (s.modLink f) :=
  State.quiet.keeps { State.quiet.refl s with link := h }

theorem Axis.sameStore_spend (us : Nat) (x : Axis) : x.sameStore (x.spend us) := by
  unfold Axis.spend
  cases x.ctx with
  | none => exact .refl x
  | some c =>
    dsimp only
    split
    · exact ⟨rfl, rfl, rfl, rfl, rfl⟩
    · exact .refl x

theorem State.keeps_passTo (s : State) (q : Nat) : s.keeps (s.passTo q) :=
  State.quiet.keeps
    { commands := by simp
      axes := fun a => by
        rw [State.axis_passTo]
        split
        · exact (s.axis a).sameStore_spend _
        · exact .refl _
      groups := fun g => by rw [State.group_passTo]; exact .refl _
      pool := by simp
      reports := by rw [State.reports_passTo]; exact .refl _
      link := by rw [State.link_passTo]; exact .refl _ }

/-! ## Segments that leave (R21, R23) -/

/-- Segments leave the queue of one axis, and with each its slot and its reference. -/
structure State.sheds (s : State) (a : AxisId) (gone : List Segment) (t : State) : Prop where
  others : ∀ b, b ≠ a → t.axis b = s.axis b
  left : (t.axis a).queue.Sublist (s.axis a).queue
  length : (t.axis a).queue.length + gone.length = (s.axis a).queue.length
  gated : ∀ g, gatedOn g (t.axis a).queue + gatedOn g gone = gatedOn g (s.axis a).queue
  quota : (t.axis a).quota = (s.axis a).quota
  threshold : (t.axis a).threshold = (s.axis a).threshold
  settings : (t.axis a).settings = (s.axis a).settings
  protection : (t.axis a).protection = (s.axis a).protection
  pool : t.poolFree = s.poolFree + gone.length
  groups : ∀ g, t.group g = s.groupLess gone g
  reports : s.reports.keeps t.reports
  motion : s.motionOnly t

/-- A sum over the axes of which one changes. -/
theorem sum_of_one_axis {f h : AxisId → Nat} (a : AxisId) (same : ∀ b, b ≠ a → f b = h b) :
    f 0 + f 1 + f 2 + f 3 + h a = h 0 + h 1 + h 2 + h 3 + f a := by
  have e0 := same 0; have e1 := same 1; have e2 := same 2; have e3 := same 3
  fin_cases a <;> simp at e0 e1 e2 e3 ⊢ <;> omega

theorem State.sheds.keeps {s t : State} {a : AxisId} {gone : List Segment} (h : s.sheds a gone t) : s.keeps t where
  commands := ⟨h.motion.pending, h.motion.freeCount⟩
  pool w := by
    have sum := sum_of_one_axis (f := fun b => (t.axis b).depth) (h := fun b => (s.axis b).depth) a fun b n => by rw [h.others b n]
    have length := h.length
    have pool := h.pool
    simp only [State.poolWf, Axis.depth] at *
    omega
  quota w b := by
    by_cases e : b = a
    · subst e
      obtain ⟨low, high, threshold, depth⟩ := w b
      rw [h.quota, h.threshold]
      exact ⟨low, high, threshold, h.left.length_le.trans depth⟩
    · rw [h.others b e]
      exact w b
  refs w g := by
    obtain ⟨count, member⟩ := w g
    have sum := sum_of_one_axis (f := fun b => gatedOn g (t.axis b).queue) (h := fun b => gatedOn g (s.axis b).queue) a
      fun b n => by rw [h.others b n]
    have gated := h.gated g
    rw [h.groups g]
    refine ⟨?_, fun b seg m => ?_⟩
    · simp only [State.groupLess] at *
      omega
    · refine member b seg ?_
      by_cases e : b = a
      · exact e ▸ h.left.subset (e ▸ m)
      · exact h.others b e ▸ m
  order := h.reports.order
  marks := h.reports.marks
  link := by rw [h.motion.link]; exact id
  settings w := by
    obtain ⟨axes, groups, reports, link⟩ := w
    refine ⟨fun b => ?_, fun g => by rw [h.groups g]; exact groups g, ?_, by rw [h.motion.link]; exact link⟩
    · by_cases e : b = a
      · subst e
        rw [h.settings, h.protection]
        exact axes b
      · rw [h.others b e]
        exact axes b
    · rw [h.reports.window, h.reports.timeout]
      exact reports

theorem ReportUnit.keeps_createAll (r : ReportUnit) (time : Word32) (bodies : List ReportBody) :
    r.keeps (r.createAll time bodies) := by
  refine r.createAll_keeps time (P := r.keeps) (fun t body h => ?_) bodies (.refl r)
  have k := t.keeps_create time body
  exact ⟨k.order ∘ h.order, k.marks ∘ h.marks, k.window.trans h.window, k.timeout.trans h.timeout⟩

theorem State.keeps_removeHead (s : State) (a : AxisId) : s.keeps (s.removeHead a) := by
  cases q : (s.axis a).queue with
  | nil =>
    have e : s.removeHead a = s.modAxis a fun x => { x with ctx := none } := by simp [State.removeHead, q]
    exact e ▸ s.keeps_modAxis a
  | cons seg rest =>
    obtain ⟨touch, axis, pool, groups, reports⟩ := s.removeHead_spec a q
    exact State.sheds.keeps (gone := [seg])
      { others := touch.2
        left := by rw [axis, q]; exact List.sublist_cons_self _ _
        length := by simp [axis, q]
        gated := fun g => by rw [axis, q, gatedOn_cons g seg rest, gatedOn_cons g seg []]; simp [Nat.add_comm]
        quota := by rw [axis]
        threshold := by rw [axis]
        settings := by rw [axis]
        protection := by rw [axis]
        pool := pool
        groups := groups
        reports := reports ▸ s.reports.keeps_createAll _ _
        motion := touch.1 }

theorem State.keeps_dropTail (s : State) (a : AxisId) (keep : Nat) : s.keeps (s.dropTail a keep) := by
  obtain ⟨touch, axis, pool, groups, reports⟩ := s.dropTail_spec a keep
  exact State.sheds.keeps (gone := (s.axis a).queue.drop keep)
    { others := touch.2
      left := by rw [axis]; exact List.take_sublist _ _
      length := by simp only [axis, List.length_take, List.length_drop]; omega
      gated := fun g => by rw [axis]; exact gatedOn_take_add_drop g keep _
      quota := by rw [axis]
      threshold := by rw [axis]
      settings := by rw [axis]
      protection := by rw [axis]
      pool := by rw [pool, List.length_drop]; rfl
      groups := groups
      reports := reports ▸ .refl _
      motion := touch.1 }

end Sys2Proof.Machine

/-!
PROOF. The Axis Controllers, the Protection Unit and the tasks of an event keep the stores (R5, R6, R99) and everything else of
`State.keeps`.
-/

namespace Sys2Proof.Machine

/-! ## Barrier sets, departures, faults, brakes -/

theorem State.keeps_withdraw (s : State) (a : AxisId) : s.keeps (s.withdraw a) := by
  unfold State.withdraw
  split
  · cases (s.axis a).headGate with
    | none => exact .refl s
    | some g => exact s.keeps_setGroup
  · exact .refl s

theorem State.keeps_completeActive (s : State) (a : AxisId) : s.keeps (s.completeActive a) := by
  unfold State.completeActive
  cases (s.axis a).ctx with
  | none => exact .refl s
  | some c => exact (s.keeps_report? _).trans (State.keeps_removeHead _ a)

theorem State.keeps_abortActive (s : State) (a : AxisId) (r : AbortReason) : s.keeps (s.abortActive a r) := by
  unfold State.abortActive
  cases (s.axis a).ctx with
  | none => exact .refl s
  | some c => exact (s.keeps_report _).trans (State.keeps_removeHead _ a)

theorem State.keeps_enterHeld (s : State) (a : AxisId) : s.keeps (s.enterHeld a) := s.keeps_modAxis a

theorem State.keeps_reachReady (s : State) (a : AxisId) : s.keeps (s.reachReady a) := by
  have h : s.keeps (((s.modAxis a fun x => { x with rate := 0 }).abortActive a .stopped).modAxis a fun x =>
      { x with st := .ready, ena := true }) :=
    ((s.keeps_modAxis a).trans (State.keeps_abortActive _ a .stopped)).trans
      (State.keeps_modAxis _ a)
  unfold State.reachReady
  dsimp only
  split
  · exact (h.trans (State.keeps_dropTail _ a 0)).trans (State.keeps_modAxis _ a)
  · exact h

theorem State.keeps_enterFault (s : State) (a : AxisId) (ena : Bool) : s.keeps (s.enterFault a ena) := by
  unfold State.enterFault
  exact ((s.keeps_modAxis a).trans (State.keeps_abortActive _ a .fault)).trans
    (State.keeps_modAxis _ a)

theorem State.keeps_holdBrakeDone (s : State) (a : AxisId) (c : Ctx) : s.keeps (s.holdBrakeDone a c) := by
  unfold State.holdBrakeDone
  split
  · exact (s.keeps_completeActive a).trans (State.keeps_enterHeld _ a)
  · exact (s.keeps_modAxis a).trans (State.keeps_enterHeld _ a)

/-- What a brake that is over can come to: nothing, or, after a completion or not, a hold brake done, READY or FAULT. -/
theorem State.settleBrake_cases (s : State) (a : AxisId) :
    s.settleBrake a = s ∨ (∃ c, (s.axis a).ctx = some c ∧ (s.axis a).st = .holding ∧ c.brakeEnd = .completed
        ∧ s.settleBrake a = s.holdBrakeDone a c)
      ∨ ∃ u, (u = s ∨ u = s.completeActive a) ∧ (s.settleBrake a = u.enterHeld a ∧ u = s.completeActive a ∧ (s.axis a).st = .holding
        ∨ s.settleBrake a = u.reachReady a ∧ (s.axis a).st = .stopping
        ∨ s.settleBrake a = u.enterFault a (s.axis a).enaAfterBrake ∧ (s.axis a).st = .faultBrake) := by
  unfold State.settleBrake
  cases h : (s.axis a).ctx with
  | none => exact .inl rfl
  | some c =>
    dsimp only
    cases k : c.brakeEnd with
    | running => exact .inl rfl
    | exhausted =>
      cases (s.axis a).st with
      | holding => exact .inr (.inr ⟨_, .inr rfl, .inl ⟨rfl, rfl, rfl⟩⟩)
      | stopping => exact .inr (.inr ⟨_, .inr rfl, .inr (.inl ⟨rfl, rfl⟩)⟩)
      | faultBrake => exact .inr (.inr ⟨_, .inr rfl, .inr (.inr ⟨rfl, rfl⟩)⟩)
      | off | ready | run | gate | held | fault => exact .inl rfl
    | completed =>
      cases (s.axis a).st with
      | holding => exact .inr (.inl ⟨c, rfl, rfl, k, rfl⟩)
      | stopping => exact .inr (.inr ⟨_, .inl rfl, .inr (.inl ⟨rfl, rfl⟩)⟩)
      | faultBrake => exact .inr (.inr ⟨_, .inl rfl, .inr (.inr ⟨rfl, rfl⟩)⟩)
      | off | ready | run | gate | held | fault => exact .inl rfl

theorem State.keeps_settleBrake (s : State) (a : AxisId) : s.keeps (s.settleBrake a) := by
  obtain e | ⟨c, -, -, -, e⟩ | ⟨u, done, e⟩ := s.settleBrake_cases a
  · exact e.symm ▸ .refl s
  · exact e.symm ▸ s.keeps_holdBrakeDone a c
  · have h : s.keeps u := by
      rcases done with rfl | rfl
      · exact .refl _
      · exact s.keeps_completeActive a
    obtain ⟨e, -, -⟩ | ⟨e, -⟩ | ⟨e, -⟩ := e
    · exact e ▸ h.trans (u.keeps_enterHeld a)
    · exact e ▸ h.trans (u.keeps_reachReady a)
    · exact e ▸ h.trans (u.keeps_enterFault a _)

theorem State.keeps_firstCause (s : State) (a : AxisId) (cause : Cause) : s.keeps (s.firstCause a cause) := by
  have h : s.keeps ((s.modAxis a fun y => { y with faultRecord := some (s.faultRecordOf a cause) }).report
      (.faultRaised a cause (s.axis a).position (s.axis a).encoder.position (s.axis a).fe ((s.axis a).ctx.map (·.seg.tag)))) :=
    (s.keeps_modAxis a).trans (State.keeps_report _ _)
  unfold State.firstCause
  dsimp only
  split
  · exact (h.trans (State.keeps_withdraw _ a)).trans (State.keeps_enterFault _ a false)
  · split
    · exact (h.trans (State.keeps_modAxis _ a)).trans (State.keeps_settleBrake _ a)
    · exact (h.trans (State.keeps_withdraw _ a)).trans (State.keeps_enterFault _ a _)

theorem State.keeps_laterCause (s : State) (a : AxisId) (cause : Cause) : s.keeps (s.laterCause a cause) := by
  have h : s.keeps (s.modAxis a fun x => { x with faultRecord := x.faultRecord.map (FaultRecord.add cause) }) :=
    s.keeps_modAxis a
  unfold State.laterCause
  dsimp only
  split
  · exact h.trans (State.keeps_enterFault _ a false)
  · exact h

theorem State.keeps_raiseCause (s : State) (a : AxisId) (cause : Cause) : s.keeps (s.raiseCause a cause) := by
  unfold State.raiseCause
  split
  · exact .refl s
  · exact s.keeps_laterCause a cause
  · exact s.keeps_laterCause a cause
  all_goals exact s.keeps_firstCause a cause

theorem State.keeps_takeSilence (s : State) (a : AxisId) : s.keeps (s.takeSilence a) := by
  unfold State.takeSilence
  split
  · exact (s.keeps_modAxis a).trans (State.keeps_raiseCause _ a _)
  · exact .refl s

theorem State.keeps_takeSilences (s : State) : s.keeps s.takeSilences :=
  (((s.keeps_takeSilence 0).trans (State.keeps_takeSilence _ 1)).trans (State.keeps_takeSilence _ 2)).trans
    (State.keeps_takeSilence _ 3)

theorem State.keeps_evaluateFollow (s : State) (a : AxisId) : s.keeps (s.evaluateFollow a) := by
  unfold State.evaluateFollow
  split
  · exact s.keeps_raiseCause a _
  · exact .refl s

/-! ## Steps -/

theorem State.keeps_completeMove (s : State) (a : AxisId) (c : Ctx) (e : Nat) : s.keeps (s.completeMove a c e).1 := by
  unfold State.completeMove
  dsimp only
  split
  · exact (s.keeps_completeActive a).trans (State.keeps_report _ _)
  · exact s.keeps_completeActive a

theorem State.keeps_completeAtRest (s : State) (a : AxisId) : s.keeps (s.completeAtRest a).1 := by
  unfold State.completeAtRest
  dsimp only
  exact (s.keeps_completeActive a).trans (State.keeps_modAxis _ a)

theorem State.keeps_stepEffects (s : State) (a : AxisId) : s.keeps (s.stepEffects a).1 := by
  unfold State.stepEffects
  cases (s.axis a).ctx with
  | none => exact .refl s
  | some c =>
    dsimp only
    split
    · split
      · cases c.brakeEnd with
        | running => exact .refl s
        | exhausted | completed => exact s.keeps_completeAtRest a
      · split
        · cases c.seg.body with
          | move _ _ e _ => exact s.keeps_completeMove a c e
          | seek => exact (s.keeps_completeActive a).trans (State.keeps_enterHeld _ a)
          | dwell | mark => exact .refl s
        · exact .refl s
    · exact s.keeps_settleBrake a

/-- A pulse that is over changes the outputs alone. -/
theorem Axis.sameStore_endPulseIfOver (now : Nat) (x : Axis) : x.sameStore (x.endPulseIfOver now) := by
  rw [Axis.endPulseIfOver_frame]
  exact ⟨rfl, rfl, rfl, rfl, rfl⟩

theorem Axis.sameStore_issueStep (now : Nat) (c : Ctx) (x : Axis) : x.sameStore (x.issueStep now c) := by
  unfold Axis.issueStep
  rw [Axis.endPulseIfOver_frame]
  exact ⟨rfl, rfl, rfl, rfl, rfl⟩

theorem State.keeps_issueStep (s : State) (a : AxisId) : s.keeps (s.issueStep a).1 := by
  unfold State.issueStep
  cases (s.axis a).ctx with
  | none => exact .refl s
  | some c =>
    exact ((s.keeps_modAxis a fun x => x.sameStore_issueStep _ c).trans (State.keeps_evaluateFollow _ a)).trans
      (State.keeps_stepEffects _ a)

theorem State.keeps_attemptStep (s : State) (a : AxisId) : s.keeps (s.attemptStep a).1 := by
  unfold State.attemptStep
  cases (s.axis a).ctx with
  | none => exact .refl s
  | some c =>
    have h : s.keeps (s.modAxis a fun x => { x with ctx := some { c with delayed := none } }) :=
      s.keeps_modAxis a
    dsimp only
    split
    · have k := h.trans (State.keeps_raiseCause _ a (limitOf c.seg.body.dir).2)
      split
      · exact k.trans (State.keeps_issueStep _ a)
      · exact k
    · exact h.trans (State.keeps_issueStep _ a)

theorem State.keeps_stepFallsDue (s : State) (a : AxisId) : s.keeps (s.stepFallsDue a).1 := by
  unfold State.stepFallsDue
  dsimp only
  have after : (s.axis a).sameStore ((s.axis a).endPulseIfOver s.clock) := Axis.sameStore_endPulseIfOver _ _
  generalize (s.axis a).endPulseIfOver s.clock = x at after
  cases x.ctx with
  | none => exact .refl s
  | some c =>
    dsimp only
    split
    · split
      · have turned : x.sameStore (x.turnDir s.clock c.seg.body.dir) := ⟨rfl, rfl, rfl, rfl, rfl⟩
        exact (s.keeps_setAxis (after.trans turned)).trans (State.keeps_attemptStep _ a)
      · exact s.keeps_setAxis (after.trans (y := x) ⟨rfl, rfl, rfl, rfl, rfl⟩)
    · exact .refl s

/-! ## Tasks -/

theorem State.keeps_release (s : State) (g : GroupId) : s.keeps (s.release g).1 := by
  have h : s.keeps (s.setGroup g { s.group g with arrived := 0, timer := none, round := (s.group g).round + 1 }) :=
    s.keeps_setGroup
  unfold State.release
  dsimp only
  split
  · exact h.trans (State.keeps_report _ _)
  · exact h

theorem State.keeps_arrive (s : State) (a : AxisId) (g : GroupId) : s.keeps (s.arrive a g).1 := by
  unfold State.arrive
  dsimp only
  split
  · exact (s.keeps_setGroup.trans (State.keeps_modAxis _ a)).trans (State.keeps_release _ g)
  · dsimp only
    exact (s.keeps_setGroup.trans (State.keeps_modAxis _ a)).trans (State.keeps_modAxis _ a)

theorem State.keeps_starve (s : State) (a : AxisId) : s.keeps (s.starve a) := by
  unfold State.starve
  exact s.keeps_modAxis a

theorem State.keeps_beginHead (s : State) (a : AxisId) (carry : Option Nat) : s.keeps (s.beginHead a carry).1 := by
  unfold State.beginHead
  split
  · cases (s.axis a).queue with
    | nil => exact s.keeps_starve a
    | cons seg q =>
      dsimp only
      cases seg.gate with
      | none => exact .refl s
      | some g => exact s.keeps_arrive a g
  · exact .refl s

theorem State.keeps_activate (s : State) (a : AxisId) (carry : Option Nat) : s.keeps (s.activate a carry).1 := by
  unfold State.activate
  split
  · cases (s.axis a).queue with
    | nil => exact .refl s
    | cons seg q =>
      dsimp only
      generalize newCtx seg (if (s.axis a).rate = 0 then none else carry) = k
      have h : s.keeps (s.modAxis a fun x => { x with st := .run, ctx := some k }) :=
        s.keeps_modAxis a
      cases seg.body with
      | move | seek => exact h
      | dwell =>
        dsimp only
        exact h.trans (State.keeps_modAxis _ a)
      | mark => exact h.trans (State.keeps_completeActive _ a)
  · exact .refl s

theorem State.keeps_runTask (s : State) (t : Task) : s.keeps (s.runTask t).1 := by
  cases t with
  | beginHead a c => exact s.keeps_beginHead a c
  | activate a c => exact s.keeps_activate a c
  | stepNow a => exact s.keeps_stepFallsDue a

theorem State.keeps_settle (s : State) (ts : List Task) : s.keeps (s.settle ts) :=
  State.runTasks_keeps (P := s.keeps) (fun _ t h => h.trans (State.keeps_runTask _ t)) _ ts s (.refl s)

theorem keeps_settleAll {s : State} {r : State × List Task} (h : s.keeps r.1) : s.keeps (settleAll r) :=
  h.trans (State.keeps_settle r.1 r.2)

end Sys2Proof.Machine

/-!
PROOF. Every command keeps the invariants of `State.keeps`: the requests by their handlers, the events by the operations they run.
-/

namespace Sys2Proof.Machine

/-! ## Requests -/

/-- What a handler does keeps the invariants. -/
def Handler.keeps (h : Handler) : Prop := ∀ (p : List Byte) (s : State), s.keeps (h p s).1

theorem keeps_checkLength {n : Nat} {h : Handler} (k : Handler.keeps h) : Handler.keeps (checkLength n h) := fun p s => by
  unfold checkLength
  split
  · exact k p s
  · exact .refl s

theorem keeps_onAxis {h : AxisId → Handler} (k : ∀ a, Handler.keeps (h a)) : Handler.keeps (onAxis h) := fun p s => by
  unfold onAxis
  cases axisOf (byteAt p 0) with
  | none => exact .refl s
  | some a => exact k a p s

theorem keeps_onGroup {h : GroupId → Handler} (k : ∀ g, Handler.keeps (h g)) : Handler.keeps (onGroup h) := fun p s => by
  unfold onGroup
  cases groupOf (byteAt p 0) with
  | none => exact .refl s
  | some g => exact k g p s

theorem State.keeps_restartSilence (s : State) : s.keeps s.restartSilence := by
  unfold State.restartSilence
  split
  · exact .refl s
  · exact s.keeps_modLink ⟨id, rfl⟩

/-- A taken frame leaves room in the buffer. -/
theorem State.keeps_takeFrame {s : State} {f : Frame} {rest : List Frame} (buffer : s.link.rxBuffer = f :: rest) :
    s.keeps (s.takeFrame rest) := by
  refine .trans (s.keeps_modLink ⟨fun ⟨room, counters⟩ => ⟨?_, counters⟩, rfl⟩) (State.keeps_restartSilence _)
  rw [buffer] at room
  exact (Nat.le_succ _).trans room

theorem State.keeps_placeReply (s : State) (f : Frame) (p : List Byte) : s.keeps (s.placeReply f p) :=
  s.keeps_modLink ⟨id, rfl⟩

/-- A request keeps what its handler keeps. -/
theorem State.keeps_takeRequest (s : State) (code : Byte) {h : Handler} (k : Handler.keeps h) : s.keeps (s.takeRequest code h) := by
  obtain e | ⟨f, rest, -, buffer, -, -, e⟩ := s.takeRequest_cases code h
  · exact e.symm ▸ .refl s
  · have taken : s.takeSilences.link.rxBuffer = f :: rest := by rw [s.motionOnly_takeSilences.link, buffer]
    rw [e]
    exact ((s.keeps_takeSilences.trans (State.keeps_takeFrame taken)).trans (k _ _)).trans (State.keeps_placeReply _ f _)

/-! ## Numbers in bytes (R180) -/

theorem leNat_lt (bs : List Byte) : leNat bs < 256 ^ bs.length := by
  induction bs with
  | nil => simp [leNat]
  | cons b bs ih =>
    have := b.isLt
    rw [leNat, List.length_cons, Nat.pow_succ]
    omega

theorem field_lt (p : List Byte) (i k : Nat) : field p i k < 256 ^ k :=
  (leNat_lt _).trans_le (Nat.pow_le_pow_right (by decide) (List.length_take_le k _))

/-! ## The Segment Store (R4, R6, R12) -/

/-- An accepted record is gated on no group, or on one that has the axis as a member (R3, R4). -/
theorem readRecord_gate {members : GroupId → BitVec 4} {a : AxisId} {r : List Byte} {seg : Segment}
    (h : readRecord members a r = .ok seg) {g : GroupId} (gate : seg.gate = some g) : inSet (members g) a = true := by
  unfold readRecord at h
  split at h
  · cases h
  · split at h
    · cases h
      cases gate
    · split at h
      · cases h
      · split at h
        · cases h
        · next member =>
          cases h
          cases gate
          simpa using member

theorem readRecords_gate {members : GroupId → BitVec 4} {a : AxisId} {i : Nat} {rs : List (List Byte)} {segs : List Segment}
    (h : readRecords members a i rs = .ok segs) :
    segs.length = rs.length ∧ ∀ seg ∈ segs, ∀ g, seg.gate = some g → inSet (members g) a = true := by
  induction rs generalizing i segs with
  | nil =>
    cases h
    exact ⟨rfl, by simp⟩
  | cons r rs ih =>
    rw [readRecords] at h
    split at h
    · cases h
    · next seg first =>
      split at h
      · cases h
      · next segs' others =>
        cases h
        obtain ⟨len, gates⟩ := ih others
        refine ⟨by simp [len], fun x hx g gate => ?_⟩
        rcases List.mem_cons.mp hx with rfl | hx
        · exact readRecord_gate first gate
        · exact gates x hx g gate

/-- An admission within quota and pool, of records gated on groups of the axis. -/
theorem State.keeps_enqueue {s : State} {a : AxisId} {segs : List Segment}
    (quota : (s.axis a).depth + segs.length ≤ (s.axis a).quota) (pool : segs.length ≤ s.poolFree)
    (gates : ∀ seg ∈ segs, ∀ g, seg.gate = some g → inSet (s.group g).members a = true) : s.keeps (s.enqueue a segs) := by
  obtain ⟨touch, axis, free, groups, reports⟩ := s.enqueue_spec segs a
  have limits : ∀ b, (s.enqueue a segs |>.axis b).settings = (s.axis b).settings
      ∧ (s.enqueue a segs |>.axis b).protection = (s.axis b).protection := by
    intro b
    by_cases e : b = a
    · subst e
      rw [axis]
      exact ⟨rfl, rfl⟩
    · rw [touch.2 b e]
      exact ⟨rfl, rfl⟩
  refine ⟨⟨touch.1.pending, touch.1.freeCount⟩, fun w => ?_, fun w b => ?_, fun w g => ?_, by rw [reports]; exact id, by rw [reports]; exact id,
    by rw [touch.1.link]; exact id, fun w => ?_⟩
  · have sum := sum_of_one_axis (f := fun b => (s.enqueue a segs |>.axis b).depth) (h := fun b => (s.axis b).depth) a
      fun b n => by rw [touch.2 b n]
    simp only [axis, Axis.depth, List.length_append] at sum
    simp only [State.poolWf, Axis.depth, free] at *
    omega
  · by_cases e : b = a
    · subst e
      obtain ⟨low, high, threshold, -⟩ := w b
      rw [axis]
      exact ⟨low, high, threshold, by simpa [Axis.depth] using quota⟩
    · rw [touch.2 b e]
      exact w b
  · obtain ⟨count, member⟩ := w g
    have sum := sum_of_one_axis (f := fun b => gatedOn g (s.enqueue a segs |>.axis b).queue) (h := fun b => gatedOn g (s.axis b).queue)
      a fun b n => by rw [touch.2 b n]
    simp only [axis, gatedOn_append] at sum
    rw [groups g]
    refine ⟨by dsimp only; omega, fun b seg m gate => ?_⟩
    by_cases e : b = a
    · subst e
      rw [axis] at m
      rcases List.mem_append.mp m with m | m
      · exact member b seg m gate
      · exact gates seg m g gate
    · rw [touch.2 b e] at m
      exact member b seg m gate
  · obtain ⟨axes, entries, unit, link⟩ := w
    refine ⟨fun b => ?_, fun g => by rw [groups g]; exact entries g, by rw [reports]; exact unit, by rw [touch.1.link]; exact link⟩
    rw [(limits b).1, (limits b).2]
    exact axes b

theorem length_recordsOf (p : List Byte) (count : Nat) : (recordsOf p count).length = count := by simp [recordsOf]

/-- What a load that is not refused has: valid records, room under the quota and in the pool (R11). -/
theorem loadRecords_cases (a : AxisId) (count : Nat) (p : List Byte) (s : State) :
    (loadRecords a count p s).1 = s
    ∨ ∃ segs, readRecords (fun g => (s.group g).members) a 0 (recordsOf p count) = .ok segs ∧ segs.length = count
      ∧ (s.axis a).depth + segs.length ≤ (s.axis a).quota ∧ segs.length ≤ s.poolFree
      ∧ (loadRecords a count p s).1 = (s.enqueue a segs).afterLoad a (s.axis a).starved := by
  unfold loadRecords
  split
  · exact .inl rfl
  · next segs read =>
    have len : segs.length = count := (readRecords_gate read).1.trans (length_recordsOf p count)
    split
    · exact .inl rfl
    · split
      · exact .inl rfl
      · exact .inr ⟨segs, read, len, by omega, by omega, rfl⟩

theorem State.keeps_afterLoad (s : State) (a : AxisId) (starved : Bool) : s.keeps (s.afterLoad a starved) := by
  unfold State.afterLoad
  split
  · exact s.keeps_settle _
  · exact .refl s

theorem keeps_loadSegments : Handler.keeps loadSegments := fun p s => by
  unfold loadSegments
  split
  · exact .refl s
  · refine keeps_onAxis (fun a p s => ?_) p s
    dsimp only
    split
    · exact .refl s
    · split
      · exact .refl s
      · obtain e | ⟨segs, read, -, quota, pool, e⟩ := loadRecords_cases a (byteAt p 1).toNat p s
        · exact e.symm ▸ .refl s
        · rw [e]
          exact (State.keeps_enqueue quota pool (readRecords_gate read).2).trans (State.keeps_afterLoad _ _ _)

theorem keeps_trimQueue : Handler.keeps trimQueue := keeps_checkLength <| keeps_onAxis fun a p s => by
  dsimp only
  split
  · exact .refl s
  · exact s.keeps_dropTail a _

theorem State.keeps_flush (s : State) (a : AxisId) : s.keeps (s.flush a) := by
  unfold State.flush
  dsimp only
  split
  · exact s.keeps_dropTail a 1
  · split
    · exact ((s.keeps_withdraw a).trans (State.keeps_dropTail _ a 0)).trans (State.keeps_starve _ a)
    · exact s.keeps_dropTail a 0

theorem keeps_flushQueue : Handler.keeps flushQueue := keeps_checkLength <| keeps_onAxis fun a _ s => s.keeps_flush a

/-- An axis whose quota and threshold change, to values in range that the queue is not over. -/
theorem State.keeps_setQuota {s : State} {a : AxisId} {quota threshold : Nat} (low : 1 ≤ quota) (high : quota ≤ 128)
    (depth : (s.axis a).depth ≤ quota) (range : threshold ≤ 127) :
    s.keeps (s.modAxis a fun x => { x with quota := quota, threshold := threshold }) := by
  have axes : ∀ b, ∃ q t, (s.modAxis a fun x => { x with quota := quota, threshold := threshold }).axis b
      = { s.axis b with quota := q, threshold := t } := by
    intro b
    rw [State.axis_modAxis]
    split
    · next e => exact ⟨quota, threshold, by rw [e]⟩
    · exact ⟨(s.axis b).quota, (s.axis b).threshold, rfl⟩
  have same : ∀ b, ((s.modAxis a fun x => { x with quota := quota, threshold := threshold }).axis b).queue = (s.axis b).queue
      ∧ ((s.modAxis a fun x => { x with quota := quota, threshold := threshold }).axis b).settings = (s.axis b).settings
      ∧ ((s.modAxis a fun x => { x with quota := quota, threshold := threshold }).axis b).protection = (s.axis b).protection := by
    intro b
    obtain ⟨q, t, e⟩ := axes b
    rw [e]
    exact ⟨rfl, rfl, rfl⟩
  refine ⟨⟨rfl, rfl⟩, fun w => ?_, fun w b => ?_, fun w => ?_, id, id, id, fun w => ?_⟩
  · simpa only [State.poolWf, Axis.depth, (same _).1, State.poolFree_modAxis] using w
  · rw [State.axis_modAxis]
    split
    · exact ⟨low, high, range, depth⟩
    · exact w b
  · simpa only [State.refCountWf, (same _).1, State.group_modAxis] using w
  · simpa only [State.settingsWf, (same _).2.1, (same _).2.2, State.group_modAxis, State.reports_modAxis, State.link_modAxis] using w

theorem keeps_configureQueue : Handler.keeps configureQueue := keeps_checkLength <| keeps_onAxis fun a p s => by
  dsimp only
  split
  · exact .refl s
  · next quota =>
    split
    · exact .refl s
    · split
      · exact .refl s
      · simp only [Bool.or_eq_true, decide_eq_true_eq, not_or, Nat.not_lt] at quota
        exact State.keeps_setQuota (by omega) (by omega) (by omega) (by omega)

/-! ## The Axis Controllers -/

theorem keeps_enableAxis : Handler.keeps enableAxis := keeps_checkLength <| keeps_onAxis fun a p s => by
  split
  · exact .refl s
  · split
    · exact .refl s
    · dsimp only
      exact s.keeps_modAxis a

theorem keeps_disableAxis : Handler.keeps disableAxis := keeps_checkLength <| keeps_onAxis fun a p s => by
  split
  · exact .refl s
  · dsimp only
    exact s.keeps_modAxis a

theorem keeps_startAxis : Handler.keeps startAxis := keeps_checkLength <| keeps_onAxis fun a p s => by
  split
  · exact .refl s
  · exact s.keeps_settle _

theorem State.keeps_hold (s : State) (a : AxisId) : s.keeps (s.hold a) := by
  unfold State.hold
  dsimp only
  cases (s.axis a).ctx with
  | none => exact (s.keeps_withdraw a).trans (State.keeps_enterHeld _ a)
  | some c =>
    dsimp only
    split
    · exact s.keeps_setAxis.trans (State.keeps_settleBrake _ a)
    · exact s.keeps_setAxis.trans (State.keeps_enterHeld _ a)

theorem keeps_holdAxis : Handler.keeps holdAxis := keeps_checkLength <| keeps_onAxis fun a p s => by
  split
  · exact s.keeps_hold a
  · exact .refl s

theorem State.keeps_resume (s : State) (a : AxisId) : s.keeps (s.resume a) := by
  unfold State.resume
  dsimp only
  cases (s.axis a).ctx with
  | none => exact s.keeps_settle _
  | some c =>
    dsimp only
    split
    · exact s.keeps_setAxis.trans (State.keeps_settle _ _)
    · split
      · exact s.keeps_setAxis.trans (keeps_settleAll (State.keeps_completeAtRest _ a))
      · exact s.keeps_setAxis

theorem keeps_resumeAxis : Handler.keeps resumeAxis := keeps_checkLength <| keeps_onAxis fun a p s => by
  split
  · exact .refl s
  · exact s.keeps_resume a

theorem State.keeps_stopBrake (s : State) (a : AxisId) (flush : Bool) : s.keeps (s.stopBrake a flush) := by
  unfold State.stopBrake
  dsimp only
  split
  · exact .refl s
  · split
    · exact s.keeps_setAxis.trans (State.keeps_settleBrake _ a)
    · exact ((s.keeps_withdraw a).trans (State.keeps_modAxis _ a)).trans (State.keeps_reachReady _ a)

theorem State.keeps_stopHalt (s : State) (a : AxisId) (flush : Bool) : s.keeps (s.stopHalt a flush) := by
  unfold State.stopHalt
  exact ((s.keeps_withdraw a).trans (State.keeps_modAxis _ a)).trans (State.keeps_reachReady _ a)

theorem keeps_stopAxis : Handler.keeps stopAxis := keeps_checkLength <| keeps_onAxis fun a p s => by
  dsimp only
  cases twoValued (byteAt p 1) with
  | none => exact .refl s
  | some halt =>
    dsimp only
    split
    · exact .refl s
    · unfold replyState
      dsimp only
      split
      · exact s.keeps_stopHalt a _
      · exact s.keeps_stopBrake a _

theorem keeps_setPosition : Handler.keeps setPosition := keeps_checkLength <| keeps_onAxis fun a p s => by
  dsimp only
  split
  · exact s.keeps_setAxis.trans (State.keeps_evaluateFollow _ a)
  · exact .refl s

/-! ## Groups and protection (R98, R99, R130) -/

/-- A group entry that no queued segment is gated on may have any members. -/
theorem State.keeps_setMembers {s : State} {g : GroupId} {members : BitVec 4} {timeout : Nat} {report : Bool}
    (size : setSize members ≠ 1) (range : timeout ≤ 60000) (free : (s.group g).refCount = 0) :
    s.keeps (s.modGroup g fun x => { x with members := members, timeout := timeout, releaseReport := report }) := by
  have count : ∀ h, ((s.modGroup g fun x => { x with members := members, timeout := timeout, releaseReport := report }).group h).refCount
      = (s.group h).refCount := by
    intro h
    rw [State.group_modGroup]
    split
    · next e => rw [e]
    · rfl
  refine ⟨⟨rfl, rfl⟩, id, id, fun w h => ?_, id, id, id, fun w => ?_⟩
  · obtain ⟨sum, member⟩ := w h
    refine ⟨(count h).trans sum, fun b seg m gate => ?_⟩
    by_cases e : h = g
    · subst e
      exfalso
      have mine : 1 ≤ gatedOn h (s.axis b).queue := by
        simpa only [gatedOn, List.length_pos_iff_exists_mem, List.mem_filter, Nat.succ_le_iff] using ⟨seg, m, by simp [gate]⟩
      rw [free] at sum
      fin_cases b <;> simp at mine <;> omega
    · rw [State.group_modGroup_ne s _ e]
      exact member b seg m gate
  · obtain ⟨axes, groups, unit, link⟩ := w
    refine ⟨axes, fun h => ?_, unit, link⟩
    rw [State.group_modGroup]
    split
    · exact ⟨size, range⟩
    · exact groups h

theorem keeps_defineGroup : Handler.keeps defineGroup := keeps_checkLength <| keeps_onGroup fun g p s => by
  dsimp only
  split
  · exact .refl s
  · next size =>
    split
    · exact .refl s
    · split
      · exact .refl s
      · next free => exact State.keeps_setMembers size (by omega) (not_not.mp free)

theorem keeps_readGroupStatus : Handler.keeps readGroupStatus := keeps_checkLength <| keeps_onGroup fun _ _ s => .refl s

/-- An axis whose settings or protection change, to values in range. -/
theorem State.keeps_setSettings {s : State} {a : AxisId} {f : Axis → Axis} (queue : ∀ x, (f x).queue = x.queue)
    (quota : ∀ x, (f x).quota = x.quota) (threshold : ∀ x, (f x).threshold = x.threshold)
    (range : (s.axis a).settings.wf ∧ (s.axis a).protection.followLimit ≤ 65535 →
      (f (s.axis a)).settings.wf ∧ (f (s.axis a)).protection.followLimit ≤ 65535) : s.keeps (s.modAxis a f) := by
  have same : ∀ b, ((s.modAxis a f).axis b).queue = (s.axis b).queue ∧ ((s.modAxis a f).axis b).quota = (s.axis b).quota
      ∧ ((s.modAxis a f).axis b).threshold = (s.axis b).threshold := by
    intro b
    rw [State.axis_modAxis]
    split
    · next e => exact e ▸ ⟨queue _, quota _, threshold _⟩
    · exact ⟨rfl, rfl, rfl⟩
  refine ⟨⟨rfl, rfl⟩, fun w => ?_, fun w => ?_, fun w => ?_, id, id, id, fun w => ?_⟩
  · simpa only [State.poolWf, Axis.depth, (same _).1, State.poolFree_modAxis] using w
  · simpa only [State.quotaWf, Axis.depth, (same _).1, (same _).2.1, (same _).2.2] using w
  · simpa only [State.refCountWf, (same _).1, State.group_modAxis] using w
  · obtain ⟨axes, others⟩ := w
    refine ⟨fun b => ?_, others⟩
    rw [State.axis_modAxis]
    split
    · exact range (axes a)
    · exact axes b

theorem readProtection_followLimit {p : List Byte} {x : Protection} (h : readProtection p = some x) : x.followLimit ≤ 65535 := by
  unfold readProtection at h
  split at h
  · cases h
    exact Nat.le_of_lt_succ (field_lt p 1 2)
  · cases h

theorem keeps_configureProtection : Handler.keeps configureProtection := keeps_checkLength <| keeps_onAxis fun a p s => by
  split
  · exact .refl s
  · next protection read =>
    dsimp only
    exact State.keeps_setSettings (f := fun x => { x with protection := protection }) (fun _ => rfl) (fun _ => rfl) (fun _ => rfl)
      fun w => ⟨w.1, readProtection_followLimit read⟩

theorem keeps_clearFault : Handler.keeps clearFault := keeps_checkLength <| keeps_onAxis fun a p s => by
  dsimp only
  split
  · exact .refl s
  · split
    · exact .refl s
    · split
      · exact .refl s
      · split
        · exact (s.keeps_modAxis a).trans (State.keeps_dropTail _ a 0)
        · dsimp only
          exact s.keeps_modAxis a

/-! ## Axis settings (R168) -/

theorem readAxisSettings_wf {p : List Byte} {x : AxisSettings} (h : readAxisSettings p = some x) : x.wf := by
  unfold readAxisSettings at h
  split at h
  · next range =>
    split at h
    · cases h
      simp only [inRange, Bool.and_eq_true, decide_eq_true_eq] at range
      simp only [AxisSettings.wf]
      omega
    · cases h
  · cases h

theorem keeps_configureAxis : Handler.keeps configureAxis := keeps_checkLength <| keeps_onAxis fun a p s => by
  split
  · exact .refl s
  · next set read =>
    split
    · exact .refl s
    · exact State.keeps_setSettings (fun _ => rfl) (fun _ => rfl) (fun _ => rfl) fun w => ⟨readAxisSettings_wf read, w.2⟩

/-! ## The Report Unit (R142, R144, R146) -/

/-- A Report Unit with other settings, in range. -/
theorem State.keeps_configureReports {s : State} {r : ReportUnit} (order : s.reports.queueWf → r.queueWf)
    (marks : s.reports.marksWf → r.marksWf) (low : 1 ≤ r.window) (high : r.window ≤ 8) (early : 5 ≤ r.timeout)
    (late : r.timeout ≤ 1275) (fives : r.timeout % 5 = 0) : s.keeps (s.setReports r) :=
  ⟨⟨rfl, rfl⟩, id, id, id, order, marks, id, fun ⟨axes, groups, _, link⟩ => ⟨axes, groups, ⟨low, high, early, late, fives⟩, link⟩⟩

/-- The window and the timeout take part in no mark but the count. -/
theorem ReportUnit.marksWf_set {r : ReportUnit} {streaming : Bool} {window timeout : Nat} (h : r.marksWf)
    (room : r.inFlightCount ≤ window) : ReportUnit.marksWf { r with streaming := streaming, window := window, timeout := timeout } :=
  have ⟨front, once, _, both⟩ := h
  ⟨front, once, room, both⟩

theorem keeps_configureReports : Handler.keeps configureReports := keeps_checkLength fun p s => by
  dsimp only
  split
  · exact .refl s
  · next window =>
    split
    · exact .refl s
    · next timeout =>
      simp only [Bool.or_eq_true, decide_eq_true_eq, not_or, Nat.not_lt] at window timeout
      obtain ⟨⟨early, late⟩, fives⟩ := timeout
      have low : 1 ≤ (byteAt p 1).toNat := Nat.one_le_iff_ne_zero.mpr window.1
      split
      · exact State.keeps_configureReports ReportUnit.queueWf_goBack
          (fun w => ReportUnit.marksWf_set (ReportUnit.marksWf_of_goBack rfl w) (by simp)) low window.2 early late (not_not.mp fives)
      · next room =>
        exact State.keeps_configureReports id (fun w => ReportUnit.marksWf_set w (Nat.not_lt.mp room)) low window.2 early late
          (not_not.mp fives)

theorem keeps_acknowledgeReports : Handler.keeps acknowledgeReports := keeps_checkLength fun p s => by
  dsimp only
  split
  · exact .refl s
  · next removed rest split =>
    obtain ⟨queue, some⟩ := splitAck_append split
    exact s.keeps_setReports ⟨ReportUnit.queueWf_of_suffix (t := { s.reports with queue := rest, timer := _ }) queue some rfl,
      ReportUnit.marksWf_of_suffix (t := { s.reports with queue := rest, timer := _ }) queue rfl, rfl, rfl⟩

theorem keeps_replayReports : Handler.keeps replayReports := keeps_checkLength fun _ s => s.keeps_setReports s.reports.keeps_goBack

/-! ## The Command Link (R162 to R165) -/

/-- A silence timeout in range. -/
theorem State.keeps_setSilence {s : State} {f : Link → Link} (range : s.link.wf → (f s.link).wf)
    (silence : (f s.link).silenceTimeout = 0 ∨ (10 ≤ (f s.link).silenceTimeout ∧ (f s.link).silenceTimeout ≤ 10000)) :
    s.keeps (s.modLink f) :=
  ⟨⟨rfl, rfl⟩, id, id, id, id, id, range, fun ⟨axes, groups, unit, _⟩ => ⟨axes, groups, unit, silence⟩⟩

theorem keeps_configureLink : Handler.keeps configureLink := keeps_checkLength fun p s => by
  dsimp only
  split
  · dsimp only
    exact State.keeps_setSilence (f := fun l => { l with silenceTimeout := 0, silenceTimer := none }) id (.inl rfl)
  · split
    · exact .refl s
    · next range =>
      simp only [Bool.or_eq_true, decide_eq_true_eq, not_or, Nat.not_lt] at range
      refine .trans (State.keeps_setSilence ?_ ?_) (State.keeps_restartSilence _)
      · exact id
      · exact .inr range

theorem State.keeps_modCounters (s : State) {f : LinkCounters → LinkCounters}
    (h : ∀ l : Link, l.wf → Link.wf { l with counters := f l.counters }) : s.keeps (s.modCounters f) :=
  s.keeps_modLink ⟨h s.link, rfl⟩

theorem keeps_readLinkStatus : Handler.keeps readLinkStatus := keeps_checkLength fun p s => by
  cases twoValued (byteAt p 0) with
  | none => exact .refl s
  | some clear =>
    cases clear
    · exact .refl s
    · exact s.keeps_modCounters (f := fun _ => .reset) fun _ w => ⟨w.1, by simp [LinkCounters.reset]⟩

theorem keeps_resetDevice : Handler.keeps resetDevice := keeps_checkLength fun _ s => by
  dsimp only
  exact s.keeps_modLink ⟨id, rfl⟩

theorem keeps_noOperation : Handler.keeps noOperation := fun p s => by
  unfold noOperation
  split <;> exact .refl s

theorem keeps_readAxisStatus : Handler.keeps readAxisStatus := keeps_checkLength <| keeps_onAxis fun _ _ s => .refl s
theorem keeps_readDeviceInfo : Handler.keeps readDeviceInfo := keeps_checkLength fun _ s => .refl s

theorem satInc_le {n : Nat} (h : n ≤ 65535) : satInc n ≤ 65535 := by
  unfold satInc
  split <;> omega

section LinkBytes
variable {l : Link} (h : l.wf)
include h

theorem Link.wf.countCrcError : Link.wf { l with counters := { l.counters with crcErrors := satInc l.counters.crcErrors } } :=
  have ⟨room, crc, rest⟩ := h
  ⟨room, satInc_le crc, rest⟩

theorem Link.wf.countLengthError :
    Link.wf { l with counters := { l.counters with lengthErrors := satInc l.counters.lengthErrors } } :=
  have ⟨room, crc, len, rest⟩ := h
  ⟨room, crc, satInc_le len, rest⟩

theorem Link.wf.countFrameTimeout :
    Link.wf { l with counters := { l.counters with frameTimeouts := satInc l.counters.frameTimeouts } } :=
  have ⟨room, crc, len, gap, rest⟩ := h
  ⟨room, crc, len, satInc_le gap, rest⟩

theorem Link.wf.countOverrun : Link.wf { l with counters := { l.counters with overruns := satInc l.counters.overruns } } :=
  have ⟨room, crc, len, gap, lost, rest⟩ := h
  ⟨room, crc, len, gap, satInc_le lost, rest⟩

theorem Link.wf.countDuplicate : Link.wf { l with counters := { l.counters with duplicates := satInc l.counters.duplicates } } :=
  have ⟨room, crc, len, gap, lost, dup, rest⟩ := h
  ⟨room, crc, len, gap, lost, satInc_le dup, rest⟩

theorem Link.wf.countRetransmit : Link.wf { l with counters := { l.counters with retransmits := satInc l.counters.retransmits } } :=
  have ⟨room, crc, len, gap, lost, dup, again, resets⟩ := h
  ⟨room, crc, len, gap, lost, dup, satInc_le again, resets⟩

theorem Link.wf.countLinkReset : Link.wf { l with counters := { l.counters with linkResets := satInc l.counters.linkResets } } :=
  have ⟨room, crc, len, gap, lost, dup, again, resets⟩ := h
  ⟨room, crc, len, gap, lost, dup, again, satInc_le resets⟩

end LinkBytes

theorem State.keeps_takeUnknown (s : State) : s.keeps s.takeUnknown := by
  unfold State.takeUnknown
  split
  · exact .refl s
  · next f rest buffer =>
    split
    · have taken : s.takeSilences.link.rxBuffer = f :: rest := by rw [s.motionOnly_takeSilences.link, buffer]
      exact (s.keeps_takeSilences.trans (State.keeps_takeFrame taken)).trans (State.keeps_placeReply _ f _)
    · exact .refl s

theorem Link.keeps_replySlot (l : Link) (slot : Option ReplySlot) : l.keeps { l with replySlot := slot } := ⟨id, rfl⟩

theorem State.keeps_takeDuplicate (s : State) : s.keeps s.takeDuplicate := by
  unfold State.takeDuplicate
  split
  · exact .refl s
  · next f rest buffer =>
    split
    · have taken : s.takeSilences.link.rxBuffer = f :: rest := by rw [s.motionOnly_takeSilences.link, buffer]
      refine .trans (.trans (s.keeps_takeSilences.trans (State.keeps_takeFrame taken)) (State.keeps_modLink _ ?_))
        (State.keeps_modCounters _ ?_)
      · exact Link.keeps_replySlot _ _
      · exact fun _ => Link.wf.countDuplicate
    · exact .refl s

end Sys2Proof.Machine

/-!
PROOF. The events keep the invariants of `State.keeps`, and so does every step: the Segment Store, the Report Unit, the link and the
settings (R5, R6, R99, R139, R141, R153, R163, R168).
-/

namespace Sys2Proof.Machine

/-! ## Inputs -/

theorem State.keeps_passToMicros (s : State) (t : Nat) : s.keeps (s.passToMicros t) := s.keeps_passTo _

theorem State.keeps_deliverInput (s : State) (a : AxisId) (i : AxisInput) : s.keeps (s.deliverInput a i) := by
  unfold State.deliverInput
  exact s.keeps_modAxis a

theorem State.keeps_setTrip (s : State) (l : InputLine) : s.keeps { s with trip := l } :=
  State.quiet.keeps { State.quiet.refl s with }

theorem State.keeps_setStraps (s : State) (x : Straps) : s.keeps { s with straps := x } :=
  State.quiet.keeps { State.quiet.refl s with }

theorem State.keeps_setResetn (s : State) (low : Bool) : s.keeps { s with resetnLow := low } :=
  State.quiet.keeps { State.quiet.refl s with }

theorem State.keeps_stepEffects_settled (s : State) (a : AxisId) : s.keeps (settleAll (s.stepEffects a)) :=
  keeps_settleAll (s.keeps_stepEffects a)

theorem State.keeps_triggerFound (s : State) (a : AxisId) : s.keeps (s.triggerFound a) := by
  unfold State.triggerFound
  dsimp only
  cases (s.axis a).ctx with
  | none => exact .refl s
  | some c => exact ((s.keeps_modAxis a).trans (State.keeps_report _ _)).trans (State.keeps_stepEffects_settled _ a)

theorem State.keeps_deliverEnci (s : State) (a : AxisId) : s.keeps (s.deliverEnci a) := by
  unfold State.deliverEnci
  exact (s.keeps_deliverInput a .enci).trans (State.keeps_modAxis _ a)

theorem State.keeps_takeIndexEdge (s : State) (a : AxisId) : s.keeps (s.takeIndexEdge a) := by
  unfold State.takeIndexEdge
  split
  · dsimp only
    split
    · exact (s.keeps_modAxis a).trans (State.keeps_report _ _)
    · exact s.keeps_modAxis a
  · exact .refl s

theorem State.keeps_takePair (s : State) (a : AxisId) : s.keeps (s.takePair a) := by
  unfold State.takePair
  dsimp only
  split
  · exact .refl s
  · split
    · exact .refl s
    · split
      · exact (s.keeps_modAxis a).trans (State.keeps_evaluateFollow _ a)
      · split
        · exact (s.keeps_modAxis a).trans (State.keeps_raiseCause _ a _)
        · exact s.keeps_modAxis a

theorem State.keeps_deliverChannel (s : State) (a : AxisId) (i : AxisInput) (q : Nat) : s.keeps (s.deliverChannel a i q) := by
  unfold State.deliverChannel
  split
  · exact s.keeps_deliverInput a i
  · exact .refl s

/-! ## The link -/

theorem Link.keeps_hunt (l : Link) : l.keeps l.hunt := ⟨id, rfl⟩

theorem Link.keeps_checkFrame (len : Byte) (bytes : List Byte) (l : Link) : l.keeps (l.checkFrame len bytes) := by
  unfold Link.checkFrame
  dsimp only
  split
  · exact ⟨Link.wf.countCrcError, rfl⟩
  · split
    · exact .refl l
    · split
      · next room => exact ⟨fun w => ⟨by simpa using room, w.2⟩, rfl⟩
      · exact ⟨Link.wf.countOverrun, rfl⟩

theorem Link.keeps.trans {l k m : Link} (h : l.keeps k) (j : k.keeps m) : l.keeps m := ⟨j.range ∘ h.range, j.silence.trans h.silence⟩

theorem Link.keeps_takeByte (clock : Nat) (b : Byte) (l : Link) : l.keeps (l.takeByte clock b) := by
  unfold Link.takeByte
  split
  · exact .refl l
  · split
    · split
      · exact ⟨id, rfl⟩
      · exact .refl l
    · split
      · exact l.keeps_hunt.trans ⟨Link.wf.countLengthError, rfl⟩
      · exact ⟨id, rfl⟩
    · unfold Link.bodyByte
      split
      · exact l.keeps_hunt.trans (Link.keeps_checkFrame _ _ _)
      · exact ⟨id, rfl⟩

theorem State.keeps_takeByte (s : State) (b : Byte) : s.keeps (s.modLink (Link.takeByte s.clock b)) :=
  s.keeps_modLink (s.link.keeps_takeByte _ b)

theorem State.keeps_beginFrame (s : State) (kind : TxKind) (bytes : List Byte) : s.keeps (s.beginFrame kind bytes) :=
  s.keeps_modLink ⟨id, rfl⟩

theorem State.keeps_linkReset (s : State) : s.keeps s.linkReset := by
  unfold State.linkReset
  refine .trans (.trans (.trans (s.keeps_modLink ?_) (State.keeps_setReports _ (ReportUnit.keeps_goBack _)))
    (State.keeps_restartSilence _)) (State.keeps_modCounters _ fun _ => Link.wf.countLinkReset)
  exact ⟨fun w => ⟨Nat.zero_le _, w.2⟩, rfl⟩

/-! ## A device reset -/

@[simp] theorem State.axis_blank (s : State) (power : Power) (a : AxisId) :
    (s.blank power).axis a = .reset (s.axis a).inputs.resettle := getElem_mapAxes _ s.axes a

@[simp] theorem State.group_blank (s : State) (power : Power) (g : GroupId) : (s.blank power).group g = .reset :=
  Vector.getElem_replicate _

/-- Every store of the block is at its reset value. -/
structure State.cleared (t : State) : Prop where
  axes : ∀ a, ∃ inputs, t.axis a = .reset inputs
  groups : ∀ g, t.group g = .reset
  pool : t.poolFree = 128
  order : t.reports.queueWf
  marks : t.reports.marksWf
  unit : t.reports.window = 4 ∧ t.reports.timeout = 50
  range : t.link.wf
  silence : t.link.silenceTimeout = 0

theorem State.cleared.queue {t : State} (h : t.cleared) (a : AxisId) : (t.axis a).queue = [] := by
  obtain ⟨inputs, e⟩ := h.axes a
  rw [e]
  rfl

theorem State.cleared.poolWf {t : State} (h : t.cleared) : t.poolWf := by
  simp [State.poolWf, Axis.depth, h.pool, h.queue, Config.poolSlots]

theorem State.cleared.quotaWf {t : State} (h : t.cleared) : t.quotaWf := fun a => by
  obtain ⟨inputs, e⟩ := h.axes a
  simp [e, Axis.reset, Axis.depth]

theorem State.cleared.refCountWf {t : State} (h : t.cleared) : t.refCountWf := fun g => by
  simp [h.queue, h.groups, Group.reset]

theorem State.cleared.settingsWf {t : State} (h : t.cleared) : t.settingsWf := by
  refine ⟨fun a => ?_, fun g => ?_, ?_, .inl h.silence⟩
  · obtain ⟨inputs, e⟩ := h.axes a
    rw [e]
    simp [Axis.reset, AxisSettings.reset, AxisSettings.wf, Protection.reset]
  · rw [h.groups]
    decide
  · rw [h.unit.1, h.unit.2]
    decide

/-- A state at its reset values has every invariant of `State.keeps`, whatever came before. -/
theorem State.cleared.keeps {s t : State} (h : t.cleared) (commands : t.pending = s.pending ∧ t.freeCount = s.freeCount) :
    s.keeps t :=
  ⟨commands, fun _ => h.poolWf, fun _ => h.quotaWf, fun _ => h.refCountWf, fun _ => h.order, fun _ => h.marks, fun _ => h.range,
    fun _ => h.settingsWf⟩

theorem State.cleared_blank (s : State) (power : Power) : (s.blank power).cleared where
  axes a := ⟨_, s.axis_blank power a⟩
  groups := s.group_blank power
  pool := rfl
  order := ⟨Nat.zero_le _, trivial, by simp [State.blank, ReportUnit.empty], fun _ => by simp [State.blank, ReportUnit.empty, Config.reportEntries]⟩
  marks := ⟨trivial, trivial, Nat.zero_le _, by simp [State.blank, ReportUnit.empty]⟩
  unit := ⟨rfl, rfl⟩
  range := by simp [State.blank, Link.reset, Link.wf, LinkCounters.reset]
  silence := rfl

theorem State.keeps_blank (s : State) (power : Power) : s.keeps (s.blank power) := (s.cleared_blank power).keeps ⟨rfl, rfl⟩

theorem State.keeps_deviceReset (s : State) (cause : ResetCause) : s.keeps (s.deviceReset cause) :=
  (s.keeps_blank .on).trans (State.keeps_report _ _)

/-! ## Timers -/

theorem State.keeps_breakGroup (s : State) (g : GroupId) : s.keeps (s.breakGroup g) := by
  have held : s.keeps (s.modAxes fun a y => if inSet (s.group g).arrived a then { y with st := .held, rate := 0 } else y) :=
    s.keeps_modAxes fun a x => by
      split
      · exact ⟨rfl, rfl, rfl, rfl, rfl⟩
      · exact .refl x
  unfold State.breakGroup
  exact (held.trans (State.keeps_setGroup _)).trans (State.keeps_report _ _)

/-! ## Every command -/

/-- An event answers a next state, which keeps the invariants. -/
def State.answersKeeping (s : State) (o : Host.Outcome State Fault Refusal) : Prop := ∃ t, o = .next t ∧ s.keeps t

theorem answersKeeping_dfltChange (s : State) (a : AxisId) : s.answersKeeping (execDfltChange a s) := by
  refine ⟨_, rfl, ?_⟩
  split
  · exact .refl s
  · have h := (s.keeps_passTo ‹_›).trans (State.keeps_deliverInput _ a .dflt)
    dsimp only
    split
    · exact h.trans (State.keeps_raiseCause _ a _)
    · exact h

theorem answersKeeping_seekTriggerEdge (s : State) (a : AxisId) : s.answersKeeping (execSeekTriggerEdge a s) := by
  refine ⟨_, rfl, ?_⟩
  split
  · exact s.keeps_triggerFound a
  · split
    · split
      · exact .refl s
      · exact ((s.keeps_passTo _).trans (State.keeps_deliverInput _ a _)).trans (State.keeps_triggerFound _ a)
    · split
      · split
        · exact .refl s
        · exact ((s.keeps_passTo _).trans (State.keeps_deliverEnci _ a)).trans (State.keeps_triggerFound _ a)
      · exact .refl s

theorem answersKeeping_homeInputChange (s : State) (a : AxisId) : s.answersKeeping (execHomeInputChange a s) := by
  refine ⟨_, rfl, ?_⟩
  split
  · exact .refl s
  · split
    · exact .refl s
    · exact (s.keeps_passTo _).trans (State.keeps_deliverInput _ a _)

theorem answersKeeping_indexEdge (s : State) (a : AxisId) : s.answersKeeping (execIndexEdge a s) := by
  refine ⟨_, rfl, ?_⟩
  split
  · exact s.keeps_takeIndexEdge a
  · split
    · exact .refl s
    · exact ((s.keeps_passTo _).trans (State.keeps_deliverEnci _ a)).trans (State.keeps_takeIndexEdge _ a)

theorem answersKeeping_quadratureTransition (s : State) (a : AxisId) : s.answersKeeping (execQuadratureTransition a s) := by
  refine ⟨_, rfl, ?_⟩
  split
  · exact .refl s
  · exact (((s.keeps_passTo _).trans (State.keeps_deliverChannel _ a _ _)).trans (State.keeps_deliverChannel _ a _ _)).trans
      (State.keeps_takePair _ a)

theorem answersKeeping_tripCause (s : State) (a : AxisId) : s.answersKeeping (execTripCause a s) := by
  refine ⟨_, rfl, ?_⟩
  split
  · dsimp only
    split
    · exact (s.keeps_modAxis a).trans (State.keeps_raiseCause _ a _)
    · exact s.keeps_modAxis a
  · exact .refl s

theorem answersKeeping_stepDue (s : State) (a : AxisId) : s.answersKeeping (execStepDue a s) := by
  refine ⟨_, rfl, ?_⟩
  split
  · exact .refl s
  · exact (s.keeps_passTo _).trans (State.keeps_settle _ _)

theorem answersKeeping_delayedStepIssue (s : State) (a : AxisId) : s.answersKeeping (execDelayedStepIssue a s) := by
  refine ⟨_, rfl, ?_⟩
  split
  · exact .refl s
  · split
    · exact ((s.keeps_passTo _).trans (State.keeps_modAxis _ a (Axis.sameStore_endPulseIfOver _))).trans
        (keeps_settleAll (State.keeps_attemptStep _ a))
    · exact .refl s

theorem answersKeeping_stepPulseEnd (s : State) (a : AxisId) : s.answersKeeping (execStepPulseEnd a s) := by
  refine ⟨_, rfl, ?_⟩
  split
  · exact (s.keeps_passTo _).trans (State.keeps_modAxis _ a)
  · exact .refl s

theorem answersKeeping_dwellExpiry (s : State) (a : AxisId) : s.answersKeeping (execDwellExpiry a s) := by
  refine ⟨_, rfl, ?_⟩
  split
  · exact .refl s
  · exact (s.keeps_passToMicros _).trans (keeps_settleAll (State.keeps_completeAtRest _ a))

theorem answersKeeping_rawInputChange (s : State) (p : InputPin) (level : Bool) :
    s.answersKeeping (execRawInputChange p level s) := by
  refine ⟨_, rfl, ?_⟩
  cases p with
  | axis a i =>
    dsimp only
    exact s.keeps_modAxis a
  | trip => exact s.keeps_setTrip _
  | baud1 | baud0 => exact s.keeps_setStraps _

/-- A report begins only where the window has room (R141). -/
theorem State.room_of_reportToSend {s : State} {e : Entry} (h : s.reportToSend = some e) :
    s.reports.inFlightCount < s.reports.window := by
  unfold State.reportToSend ReportUnit.offered at h
  split at h
  · split at h
    · next room =>
      simp only [Bool.and_eq_true, decide_eq_true_eq] at room
      exact room.2
    · cases h
  · cases h

theorem answersKeeping_frameTimeout (s : State) : s.answersKeeping (execFrameTimeout s) := by
  refine ⟨_, rfl, ?_⟩
  split
  · exact .refl s
  · exact ((s.keeps_passTo _).trans (State.keeps_modLink _ (Link.keeps_hunt _))).trans
      (State.keeps_modCounters _ fun _ => Link.wf.countFrameTimeout)

theorem answersKeeping_breakRecognised (s : State) : s.answersKeeping (execBreakRecognised s) := by
  refine ⟨_, rfl, ?_⟩
  split
  · exact s.keeps_modLink (f := fun l => { l with inBreak := true, gapStart := none }) ⟨id, rfl⟩
  · exact .refl s

theorem answersKeeping_linkReset (s : State) : s.answersKeeping (execLinkReset s) := by
  refine ⟨_, rfl, ?_⟩
  split
  · split
    · exact s.keeps_linkReset.trans (State.keeps_deviceReset _ _)
    · exact s.keeps_linkReset
  · exact .refl s

theorem answersKeeping_replyFrameBegin (s : State) : s.answersKeeping (execReplyFrameBegin s) := by
  refine ⟨_, rfl, ?_⟩
  split
  · split
    · exact .refl s
    · exact (s.keeps_beginFrame _ _).trans (State.keeps_modLink _ (Link.keeps_replySlot _ _))
  · exact .refl s

theorem answersKeeping_replyFrameEnd (s : State) : s.answersKeeping (execReplyFrameEnd s) := by
  refine ⟨_, rfl, ?_⟩
  split
  · split
    · refine (s.keeps_deviceReset _).trans (State.keeps_modLink _ ?_)
      exact ⟨id, rfl⟩
    · exact s.keeps_modLink (f := fun l => { l with tx := none, replySlot := none }) ⟨id, rfl⟩
  · exact .refl s

theorem answersKeeping_reportFrameBegin (s : State) : s.answersKeeping (execReportFrameBegin s) := by
  refine ⟨_, rfl, ?_⟩
  split
  · exact .refl s
  · next e h => exact (s.keeps_setReports (ReportUnit.keeps_send _ (State.room_of_reportToSend h))).trans (State.keeps_beginFrame _ _ _)

theorem answersKeeping_reportFrameEnd (s : State) : s.answersKeeping (execReportFrameEnd s) := by
  refine ⟨_, rfl, ?_⟩
  split
  · exact s.keeps_modLink (f := fun l => { l with tx := none }) ⟨id, rfl⟩
  · exact .refl s

theorem answersKeeping_byteDelivered (s : State) (b : Byte) : s.answersKeeping (execByteDelivered b s) := by
  refine ⟨_, rfl, ?_⟩
  split
  · exact s.keeps_takeByte b
  · exact .refl s

theorem answersKeeping_frameReceived (s : State) (b : Byte) : s.answersKeeping (execFrameReceived b s) := by
  refine ⟨_, rfl, ?_⟩
  split
  · exact s.keeps_takeByte b
  · exact .refl s

theorem answersKeeping_lengthError (s : State) (b : Byte) : s.answersKeeping (execLengthError b s) := by
  refine ⟨_, rfl, ?_⟩
  split
  · exact s.keeps_takeByte b
  · exact .refl s

theorem answersKeeping_retransmitTimerExpiry (s : State) : s.answersKeeping (execRetransmitTimerExpiry s) := by
  refine ⟨_, rfl, ?_⟩
  split
  · exact .refl s
  · exact ((s.keeps_passToMicros _).trans (State.keeps_setReports _ (ReportUnit.keeps_goBack _))).trans
      (State.keeps_modCounters _ fun _ => Link.wf.countRetransmit)

theorem answersKeeping_silenceTimerExpiry (s : State) : s.answersKeeping (execSilenceTimerExpiry s) := by
  refine ⟨_, rfl, ?_⟩
  split
  · exact .refl s
  · exact ((s.keeps_passToMicros _).trans (State.keeps_modAxes _)).trans
      (State.keeps_modLink _ (f := fun l => { l with silenceTimer := none }) ⟨id, rfl⟩)

theorem answersKeeping_tripChange (s : State) : s.answersKeeping (execTripChange s) := by
  refine ⟨_, rfl, ?_⟩
  split
  · exact .refl s
  · dsimp only
    split
    · exact ((s.keeps_passTo _).trans (State.keeps_setTrip _ _)).trans (State.keeps_modAxes _)
    · exact (s.keeps_passTo _).trans (State.keeps_setTrip _ _)

theorem answersKeeping_barrierTimerExpiry (s : State) (g : GroupId) : s.answersKeeping (execBarrierTimerExpiry g s) := by
  refine ⟨_, rfl, ?_⟩
  split
  · exact .refl s
  · exact (s.keeps_passToMicros _).trans (State.keeps_breakGroup _ g)

theorem answersKeeping_powerOn (s : State) : s.answersKeeping (execPowerOn s) := by
  refine ⟨_, rfl, ?_⟩
  split
  · exact s.keeps_blank .held
  · exact s.keeps_deviceReset _

theorem answersKeeping_resetnAssert (s : State) : s.answersKeeping (execResetnAssert s) := by
  refine ⟨_, rfl, ?_⟩
  split
  · exact s.keeps_setResetn true
  · exact (s.keeps_blank .held).trans (State.keeps_setResetn _ true)

theorem answersKeeping_resetnRelease (s : State) : s.answersKeeping (execResetnRelease s) := by
  refine ⟨_, rfl, ?_⟩
  split
  · exact (s.keeps_setResetn false).trans (State.keeps_deviceReset _ _)
  · exact s.keeps_setResetn false


theorem answersKeeping_powerLoss (s : State) : s.answersKeeping (execPowerLoss s) := by
  refine ⟨_, rfl, ?_⟩
  exact s.keeps_blank .off

theorem answersKeeping_takeRequest (s : State) (code : Byte) {h : Handler} (k : Handler.keeps h) :
    s.answersKeeping (.next (s.takeRequest code h)) := ⟨_, rfl, s.keeps_takeRequest code k⟩

/-- Every command answers a next state, which keeps the invariants and the commands that wait (R157, log 1). -/
theorem exec_answersKeeping (c : Instr) (s : State) : s.answersKeeping (exec c s) := by
  cases c with
  | loadSegments => exact answersKeeping_takeRequest s _ keeps_loadSegments
  | trimQueue => exact answersKeeping_takeRequest s _ keeps_trimQueue
  | flushQueue => exact answersKeeping_takeRequest s _ keeps_flushQueue
  | configureQueue => exact answersKeeping_takeRequest s _ keeps_configureQueue
  | enableAxis => exact answersKeeping_takeRequest s _ keeps_enableAxis
  | disableAxis => exact answersKeeping_takeRequest s _ keeps_disableAxis
  | startAxis => exact answersKeeping_takeRequest s _ keeps_startAxis
  | holdAxis => exact answersKeeping_takeRequest s _ keeps_holdAxis
  | resumeAxis => exact answersKeeping_takeRequest s _ keeps_resumeAxis
  | stopAxis => exact answersKeeping_takeRequest s _ keeps_stopAxis
  | setPosition => exact answersKeeping_takeRequest s _ keeps_setPosition
  | defineGroup => exact answersKeeping_takeRequest s _ keeps_defineGroup
  | readGroupStatus => exact answersKeeping_takeRequest s _ keeps_readGroupStatus
  | configureProtection => exact answersKeeping_takeRequest s _ keeps_configureProtection
  | clearFault => exact answersKeeping_takeRequest s _ keeps_clearFault
  | configureReports => exact answersKeeping_takeRequest s _ keeps_configureReports
  | acknowledgeReports => exact answersKeeping_takeRequest s _ keeps_acknowledgeReports
  | replayReports => exact answersKeeping_takeRequest s _ keeps_replayReports
  | configureLink => exact answersKeeping_takeRequest s _ keeps_configureLink
  | readLinkStatus => exact answersKeeping_takeRequest s _ keeps_readLinkStatus
  | resetDevice => exact answersKeeping_takeRequest s _ keeps_resetDevice
  | noOperation => exact answersKeeping_takeRequest s _ keeps_noOperation
  | configureAxis => exact answersKeeping_takeRequest s _ keeps_configureAxis
  | readAxisStatus => exact answersKeeping_takeRequest s _ keeps_readAxisStatus
  | readDeviceInfo => exact answersKeeping_takeRequest s _ keeps_readDeviceInfo
  | unknownRequest => exact ⟨_, rfl, s.keeps_takeUnknown⟩
  | duplicate => exact ⟨_, rfl, s.keeps_takeDuplicate⟩
  | byteDelivered b => exact answersKeeping_byteDelivered s b
  | frameReceived b => exact answersKeeping_frameReceived s b
  | lengthError b => exact answersKeeping_lengthError s b
  | frameTimeout => exact answersKeeping_frameTimeout s
  | breakRecognised => exact answersKeeping_breakRecognised s
  | linkReset => exact answersKeeping_linkReset s
  | replyFrameBegin => exact answersKeeping_replyFrameBegin s
  | replyFrameEnd => exact answersKeeping_replyFrameEnd s
  | reportFrameBegin => exact answersKeeping_reportFrameBegin s
  | reportFrameEnd => exact answersKeeping_reportFrameEnd s
  | retransmitTimerExpiry => exact answersKeeping_retransmitTimerExpiry s
  | silenceTimerExpiry => exact answersKeeping_silenceTimerExpiry s
  | silenceCause a => exact ⟨_, rfl, s.keeps_takeSilence a⟩
  | barrierTimerExpiry g => exact answersKeeping_barrierTimerExpiry s g
  | stepDue a => exact answersKeeping_stepDue s a
  | delayedStepIssue a => exact answersKeeping_delayedStepIssue s a
  | stepPulseEnd a => exact answersKeeping_stepPulseEnd s a
  | dwellExpiry a => exact answersKeeping_dwellExpiry s a
  | rawInputChange p level => exact answersKeeping_rawInputChange s p level
  | limitInputChange a which =>
    refine ⟨_, rfl, ?_⟩
    split
    · exact .refl s
    · exact (s.keeps_passTo _).trans (State.keeps_deliverInput _ a _)
  | dfltChange a => exact answersKeeping_dfltChange s a
  | seekTriggerEdge a => exact answersKeeping_seekTriggerEdge s a
  | homeInputChange a => exact answersKeeping_homeInputChange s a
  | indexEdge a => exact answersKeeping_indexEdge s a
  | quadratureTransition a => exact answersKeeping_quadratureTransition s a
  | tripCause a => exact answersKeeping_tripCause s a
  | tripChange => exact answersKeeping_tripChange s
  | powerOn => exact answersKeeping_powerOn s
  | resetnAssert => exact answersKeeping_resetnAssert s
  | resetnRelease => exact answersKeeping_resetnRelease s
  | powerLoss => exact answersKeeping_powerLoss s

/-- Settles O3. -/
theorem everyCommandAnswersAndLeavesTheQueue : Obligations.EveryCommandAnswersAndLeavesTheQueue := fun c s =>
  have ⟨t, e, h⟩ := exec_answersKeeping c s
  ⟨t, e, h.commands⟩

theorem State.keeps_exec {c : Instr} {s t : State} (h : exec c s = .next t) : s.keeps t := by
  obtain ⟨u, e, k⟩ := exec_answersKeeping c s
  cases e.symm.trans h
  exact k

/-- Settles O1. -/
theorem stepRunsTheFrontCommand : Obligations.StepRunsTheFrontCommand := fun c rest s h => by
  rw [step, h]

end Sys2Proof.Machine

/-!
PROOF. One axis changed, with reports created and segments gone: `State.changesTo` is closed under composition, and each operation by
which a segment leaves or an axis enters HELD, READY or FAULT is such a change, told once (R21, R38, R59, R65, R122).
-/

namespace Sys2Proof.Machine

/-! ## Changes of one axis compose -/

theorem State.changesTo.touches {s t : State} {a : AxisId} {y : Axis} {reports : List ReportBody} {gone : List Segment}
    (h : s.changesTo a y reports gone t) : s.touches a t := ⟨h.2.2.2.2.2, h.2.1⟩

theorem State.changesTo.axis {s t : State} {a : AxisId} {y : Axis} {reports : List ReportBody} {gone : List Segment}
    (h : s.changesTo a y reports gone t) : t.axis a = y := h.1

theorem State.changesTo.others {s t : State} {a : AxisId} {y : Axis} {reports : List ReportBody} {gone : List Segment}
    (h : s.changesTo a y reports gone t) : ∀ b, b ≠ a → t.axis b = s.axis b := h.2.1

theorem State.changesTo.group {s t : State} {a : AxisId} {y : Axis} {reports : List ReportBody} {gone : List Segment}
    (h : s.changesTo a y reports gone t) (g : GroupId) : t.group g = s.groupLess gone g := h.2.2.2.1 g

/-- What a change of one axis is made of. -/
theorem State.changesTo.of_touches {s t : State} {a : AxisId} {y : Axis} {reports : List ReportBody} {gone : List Segment}
    (touch : s.touches a t) (axis : t.axis a = y) (pool : t.poolFree = s.poolFree + gone.length)
    (groups : ∀ g, t.group g = s.groupLess gone g) (unit : t.reports = s.reports.createAll s.deviceTime reports) :
    s.changesTo a y reports gone t := ⟨axis, touch.2, pool, groups, unit, touch.1⟩

theorem State.changesTo.refl (s : State) (a : AxisId) : s.changesTo a (s.axis a) [] [] s :=
  .of_touches (.refl s a) rfl rfl (fun _ => rfl) rfl

theorem State.changesTo_setAxis (s : State) (a : AxisId) (y : Axis) : s.changesTo a y [] [] (s.setAxis a y) :=
  .of_touches (s.touches_setAxis a y) (by simp) rfl (fun _ => rfl) rfl

theorem State.changesTo_modAxis (s : State) (a : AxisId) (f : Axis → Axis) : s.changesTo a (f (s.axis a)) [] [] (s.modAxis a f) :=
  s.changesTo_setAxis a _

theorem State.changesTo_report (s : State) (a : AxisId) (b : ReportBody) : s.changesTo a (s.axis a) [b] [] (s.report b) :=
  .of_touches (s.touches_report a b) rfl rfl (fun _ => rfl) rfl

theorem State.changesTo_report? (s : State) (a : AxisId) (b : Option ReportBody) :
    s.changesTo a (s.axis a) b.toList [] (s.report? b) := by
  cases b with
  | none => exact .refl s a
  | some b => exact s.changesTo_report a b

theorem State.changesTo.trans {s t u : State} {a : AxisId} {y z : Axis} {p q : List ReportBody} {gone more : List Segment}
    (h : s.changesTo a y p gone t) (k : t.changesTo a z q more u) : s.changesTo a z (p ++ q) (gone ++ more) u := by
  obtain ⟨axis, others, pool, groups, unit, motion⟩ := h
  obtain ⟨axis', others', pool', groups', unit', motion'⟩ := k
  refine .of_touches (.trans ⟨motion, others⟩ ⟨motion', others'⟩) axis' ?_ (fun g => ?_) ?_
  · rw [pool', pool, List.length_append, Nat.add_assoc]
  · rw [groups', State.groupLess, groups, State.groupLess, State.groupLess, gatedOn_append, Nat.sub_sub]
  · rw [unit', unit, ReportUnit.createAll_append, State.motionOnly.deviceTime motion]

/-- The same change, its parts written otherwise. -/
theorem State.changesTo.of_eq {s t : State} {a : AxisId} {y z : Axis} {p q : List ReportBody} {gone more : List Segment}
    (h : s.changesTo a y p gone t) (axis : y = z) (reports : p = q) (segs : gone = more) : s.changesTo a z q more t := by
  subst axis reports segs
  exact h

/-- A change of one axis from a state in which that axis stands otherwise. -/
theorem State.changesTo.of_setAxis {s t : State} {a : AxisId} {x y : Axis} {reports : List ReportBody} {gone : List Segment}
    (h : (s.setAxis a x).changesTo a y reports gone t) : s.changesTo a y reports gone t := by
  simpa using (s.changesTo_setAxis a x).trans h

/-- A change in which nothing leaves is a whole state. -/
theorem State.changesTo.eq_setAxis {s t : State} {a : AxisId} {y : Axis} {reports : List ReportBody}
    (h : s.changesTo a y reports [] t) :
    t = { s.setAxis a y with reports := s.reports.createAll s.deviceTime reports } := by
  refine h.unique (.of_touches ⟨rfl, fun b ne => s.axis_setAxis_ne y ne⟩ (s.axis_setAxis_self a y) rfl (fun _ => rfl) rfl)

/-! ## The head leaves (R21) -/

theorem Axis.lowAfterOne_of_nil (a : AxisId) {x : Axis} (h : x.queue = []) : x.lowAfterOne a = [] := by
  simp only [Axis.lowAfterOne, Axis.depth, h, List.length_nil]
  exact if_neg fun k => k.1 k.2.symm

/-- The head leaves, whether there is one or not. -/
theorem State.changesTo_removeHead (s : State) (a : AxisId) :
    s.changesTo a { s.axis a with queue := (s.axis a).queue.tail, ctx := none } ((s.axis a).lowAfterOne a)
      ((s.axis a).queue.take 1) (s.removeHead a) := by
  cases q : (s.axis a).queue with
  | nil =>
    have e : s.removeHead a = s.modAxis a fun x => { x with ctx := none } := by simp [State.removeHead, q]
    rw [e, (s.axis a).lowAfterOne_of_nil a q]
    exact (s.changesTo_modAxis a _).of_eq (by simp [q]) rfl rfl
  | cons seg rest =>
    obtain ⟨touch, axis, pool, groups, reports⟩ := s.removeHead_spec a q
    exact .of_touches touch axis pool groups reports

/-- The axis once its active segment, if any, has left. -/
def Axis.departed (x : Axis) : Axis :=
  match x.ctx with
  | none => x
  | some _ => { x with queue := x.queue.tail, ctx := none }

/-- The segments that leave with the active one: it alone, if any. -/
def Axis.leaving (x : Axis) : List Segment :=
  match x.ctx with
  | none => []
  | some _ => x.queue.take 1

/-- The reports of a completion: the one of its kind, then Queue Low if crossed (R38). -/
def Axis.completion (a : AxisId) (x : Axis) : List ReportBody :=
  match x.ctx with
  | none => []
  | some c => (completionReport? a x c).toList ++ x.lowAfterOne a

/-- The reports of an abort: Segment Aborted, then Queue Low if crossed (R65, R122). -/
def Axis.abortion (a : AxisId) (reason : AbortReason) (x : Axis) : List ReportBody :=
  match x.ctx with
  | none => []
  | some c => .segmentAborted a c.seg.tag reason c.stepsDone :: x.lowAfterOne a

section Departed
variable {x : Axis} {c : Ctx}

theorem Axis.departed_of_none (h : x.ctx = none) : x.departed = x := by simp [Axis.departed, h]
theorem Axis.leaving_of_none (h : x.ctx = none) : x.leaving = [] := by simp [Axis.leaving, h]
theorem Axis.abortion_of_none (a : AxisId) (r : AbortReason) (h : x.ctx = none) : x.abortion a r = [] := by simp [Axis.abortion, h]
theorem Axis.departed_of_some (h : x.ctx = some c) : x.departed = { x with queue := x.queue.tail, ctx := none } := by
  simp [Axis.departed, h]
theorem Axis.leaving_of_some (h : x.ctx = some c) : x.leaving = x.queue.take 1 := by simp [Axis.leaving, h]
theorem Axis.completion_of_some (a : AxisId) (h : x.ctx = some c) :
    x.completion a = (completionReport? a x c).toList ++ x.lowAfterOne a := by simp [Axis.completion, h]
theorem Axis.abortion_of_some (a : AxisId) (r : AbortReason) (h : x.ctx = some c) :
    x.abortion a r = .segmentAborted a c.seg.tag r c.stepsDone :: x.lowAfterOne a := by simp [Axis.abortion, h]

theorem Axis.ctx_departed (x : Axis) : x.departed.ctx = none := by
  cases h : x.ctx with
  | none => rw [Axis.departed_of_none h, h]
  | some c => rw [Axis.departed_of_some h]

end Departed

section CompleteActive
variable (s : State) (a : AxisId)

theorem State.changesTo_completeActive :
    s.changesTo a (s.axis a).departed ((s.axis a).completion a) (s.axis a).leaving (s.completeActive a) := by
  unfold State.completeActive Axis.departed Axis.completion Axis.leaving
  cases h : (s.axis a).ctx with
  | none => exact .refl s a
  | some c => simpa using (s.changesTo_report? a (completionReport? a (s.axis a) c)).trans (State.changesTo_removeHead _ a)

theorem State.changesTo_abortActive (reason : AbortReason) :
    s.changesTo a (s.axis a).departed ((s.axis a).abortion a reason) (s.axis a).leaving (s.abortActive a reason) := by
  unfold State.abortActive Axis.departed Axis.abortion Axis.leaving
  cases h : (s.axis a).ctx with
  | none => exact .refl s a
  | some c => simpa using (s.changesTo_report a (.segmentAborted a c.seg.tag reason c.stepsDone)).trans (State.changesTo_removeHead _ a)

/-! ## HELD, READY and FAULT are entered (R59, R65, R122) -/

theorem State.changesTo_enterHeld : s.changesTo a { s.axis a with st := .held, rate := 0 } [] [] (s.enterHeld a) :=
  s.changesTo_modAxis a fun x => { x with st := .held, rate := 0 }

/-- The axis once it has entered FAULT. -/
def Axis.faulted (ena : Bool) (x : Axis) : Axis :=
  { x.departed with rate := 0, st := .fault, ena := ena, owedFlush := false }

/-- The axis once it has reached READY through Stop Axis. -/
def Axis.readied (x : Axis) : Axis :=
  { x.departed with
    queue := if x.owedFlush then [] else x.departed.queue, rate := 0, st := .ready, ena := true, owedFlush := false }

/-- The segments that leave on the way to READY: the active one, and all others for an owed flush. -/
def Axis.flushed (x : Axis) : List Segment := x.leaving ++ if x.owedFlush then x.departed.queue else []

/-- The rate takes no part in a departure. -/
theorem Axis.departed_rate (x : Axis) (r : Nat) : Axis.departed { x with rate := r } = { x.departed with rate := r } := by
  obtain ⟨_, _, _, _, ctx⟩ := x
  cases ctx <;> rfl

/-- Rate 0, then the active segment aborted. -/
theorem State.changesTo_abortAtRest (reason : AbortReason) :
    s.changesTo a { (s.axis a).departed with rate := 0 } ((s.axis a).abortion a reason) (s.axis a).leaving
      ((s.modAxis a fun x => { x with rate := 0 }).abortActive a reason) := by
  have h := (s.changesTo_modAxis a fun x => { x with rate := 0 }).trans (State.changesTo_abortActive _ a reason)
  rw [State.axis_modAxis_self] at h
  exact h.of_eq (Axis.departed_rate _ 0) rfl rfl

theorem State.changesTo_enterFault (ena : Bool) :
    s.changesTo a ((s.axis a).faulted ena) ((s.axis a).abortion a .fault) (s.axis a).leaving (s.enterFault a ena) := by
  have aborted := s.changesTo_abortAtRest a .fault
  have h := aborted.trans (State.changesTo_modAxis _ a fun x => { x with st := .fault, ena := ena, owedFlush := false })
  rw [aborted.axis] at h
  exact h.of_eq rfl (List.append_nil _) (List.append_nil _)

theorem State.changesTo_dropTail (keep : Nat) :
    s.changesTo a { s.axis a with queue := (s.axis a).queue.take keep } [] ((s.axis a).queue.drop keep) (s.dropTail a keep) := by
  obtain ⟨touch, axis, pool, groups, reports⟩ := s.dropTail_spec a keep
  exact .of_touches touch axis (by rw [pool, List.length_drop]; rfl) groups reports

/-- An axis that reaches READY, before the owed flush. -/
theorem State.changesTo_readyUnflushed :
    s.changesTo a { (s.axis a).departed with rate := 0, st := .ready, ena := true } ((s.axis a).abortion a .stopped)
      (s.axis a).leaving
      (((s.modAxis a fun x => { x with rate := 0 }).abortActive a .stopped).modAxis a fun x =>
        { x with st := .ready, ena := true }) := by
  have aborted := s.changesTo_abortAtRest a .stopped
  have h := aborted.trans (State.changesTo_modAxis _ a fun x => { x with st := .ready, ena := true })
  rw [aborted.axis] at h
  exact h.of_eq rfl (List.append_nil _) (List.append_nil _)

theorem Axis.owedFlush_departed (x : Axis) : x.departed.owedFlush = x.owedFlush := by
  unfold Axis.departed
  cases x.ctx <;> rfl

theorem State.changesTo_reachReady :
    s.changesTo a (s.axis a).readied ((s.axis a).abortion a .stopped) (s.axis a).flushed (s.reachReady a) := by
  have ready := s.changesTo_readyUnflushed a
  have owed := Axis.owedFlush_departed (s.axis a)
  unfold State.reachReady Axis.readied Axis.flushed
  dsimp only
  rw [ready.axis]
  dsimp only
  rw [owed]
  cases flush : (s.axis a).owedFlush with
  | false =>
    simp only [Bool.false_eq_true, if_false, List.append_nil]
    exact ready.of_eq (by rw [← flush, ← owed]) rfl rfl
  | true =>
    simp only [if_true]
    have emptied := ready.trans (State.changesTo_dropTail _ a 0)
    rw [ready.axis] at emptied
    have h := emptied.trans (State.changesTo_modAxis _ a fun x => { x with owedFlush := false })
    rw [emptied.axis] at h
    exact h.of_eq rfl (by simp) (by simp)

end CompleteActive

end Sys2Proof.Machine

/-!
PROOF. How a brake is over (R55, R56, R74) and what a fault cause does (R117, R121 to R127), each told once as a change of one axis.
-/

namespace Sys2Proof.Machine

/-! ## A brake that is over -/

@[simp] theorem Axis.departed_departed (x : Axis) : x.departed.departed = x.departed := Axis.departed_of_none x.ctx_departed
@[simp] theorem Axis.leaving_departed (x : Axis) : x.departed.leaving = [] := Axis.leaving_of_none x.ctx_departed
@[simp] theorem Axis.abortion_departed (a : AxisId) (r : AbortReason) (x : Axis) : x.departed.abortion a r = [] :=
  Axis.abortion_of_none a r x.ctx_departed
@[simp] theorem Axis.readied_departed (x : Axis) : x.departed.readied = x.readied := by
  simp [Axis.readied, Axis.owedFlush_departed]
@[simp] theorem Axis.faulted_departed (ena : Bool) (x : Axis) : x.departed.faulted ena = x.faulted ena := by
  simp [Axis.faulted]
theorem Axis.leaving_flushed_departed (x : Axis) : x.leaving ++ x.departed.flushed = x.flushed := by
  simp [Axis.flushed, Axis.owedFlush_departed]

section BrakeOver
variable {s : State} {a : AxisId} {x : Axis}

/-- A completion, then HELD. -/
theorem State.changesTo_completeHeld (h : s.axis a = x) :
    s.changesTo a { x.departed with st := .held, rate := 0 } (x.completion a) x.leaving ((s.completeActive a).enterHeld a) := by
  subst h
  have complete := s.changesTo_completeActive a
  have held := State.changesTo_enterHeld (s.completeActive a) a
  rw [complete.axis] at held
  exact (complete.trans held).of_eq rfl (List.append_nil _) (List.append_nil _)

/-- A completion, then READY. -/
theorem State.changesTo_completeReady (h : s.axis a = x) :
    s.changesTo a x.readied (x.completion a) x.flushed ((s.completeActive a).reachReady a) := by
  subst h
  have complete := s.changesTo_completeActive a
  have ready := State.changesTo_reachReady (s.completeActive a) a
  rw [complete.axis] at ready
  exact (complete.trans ready).of_eq (by simp) (by simp) (Axis.leaving_flushed_departed _)

/-- A completion, then FAULT. -/
theorem State.changesTo_completeFault (h : s.axis a = x) (ena : Bool) :
    s.changesTo a (x.faulted ena) (x.completion a) x.leaving ((s.completeActive a).enterFault a ena) := by
  subst h
  have complete := s.changesTo_completeActive a
  have fault := State.changesTo_enterFault (s.completeActive a) a ena
  rw [complete.axis] at fault
  exact (complete.trans fault).of_eq (by simp) (by simp) (by simp)

theorem Ctx.closeWatch_eq (c : Ctx) :
    c.closeWatch = { c with watch := if c.watch = some .opened then some .closed else c.watch, edgePending := false } := by
  unfold Ctx.closeWatch
  cases h : c.watch with
  | none => simp
  | some w => cases w <;> simp

/-- The axis held with its segment kept PAUSED, an OPEN watch CLOSED (R59, R71). -/
def Axis.heldPaused (c : Ctx) (x : Axis) : Axis :=
  { x with st := .held, rate := 0, ctx := some { c with phase := .paused, brake := none }.closeWatch }

theorem State.changesTo_holdBrakeDone_of_settle (h : s.axis a = x) {c : Ctx} (settle : c.phase = .settle) :
    s.changesTo a { x.departed with st := .held, rate := 0 } (x.completion a) x.leaving (s.holdBrakeDone a c) := by
  rw [State.holdBrakeDone, if_pos settle]
  exact State.changesTo_completeHeld h

theorem State.changesTo_holdBrakeDone_of_ne (h : s.axis a = x) {c : Ctx} (settle : c.phase ≠ .settle) :
    s.changesTo a (x.heldPaused c) [] [] (s.holdBrakeDone a c) := by
  subst h
  rw [State.holdBrakeDone, if_neg settle]
  have paused := s.changesTo_modAxis a fun x => { x with ctx := some { c with phase := .paused, brake := none }.closeWatch }
  have held := State.changesTo_enterHeld (s.modAxis a fun x => { x with ctx := some { c with phase := .paused, brake := none }.closeWatch }) a
  rw [paused.axis] at held
  exact paused.trans held

section BrakeOverWithSegment
variable {c : Ctx} (axis : s.axis a = x) (ctx : x.ctx = some c)
include axis ctx

theorem State.settleBrake_running (h : c.brakeEnd = .running) : s.settleBrake a = s := by
  simp only [State.settleBrake, axis, ctx, h]

/-- Without a brake, or in any state but the three that brake, nothing ends. -/
theorem State.settleBrake_of_st (h : x.st ≠ .holding) (k : x.st ≠ .stopping) (l : x.st ≠ .faultBrake) : s.settleBrake a = s := by
  simp only [State.settleBrake, axis, ctx]
  split
  · rfl
  · split <;> first | contradiction | rfl
  · split <;> first | contradiction | rfl

theorem State.changesTo_settleBrake_holding_exhausted (st : x.st = .holding) (h : c.brakeEnd = .exhausted) :
    s.changesTo a { x.departed with st := .held, rate := 0 } (x.completion a) x.leaving (s.settleBrake a) := by
  have e : s.settleBrake a = (s.completeActive a).enterHeld a := by simp only [State.settleBrake, axis, ctx, h, st]
  exact e ▸ State.changesTo_completeHeld axis

theorem State.settleBrake_holding_completed (st : x.st = .holding) (h : c.brakeEnd = .completed) :
    s.settleBrake a = s.holdBrakeDone a c := by simp only [State.settleBrake, axis, ctx, h, st]

theorem State.changesTo_settleBrake_stopping_exhausted (st : x.st = .stopping) (h : c.brakeEnd = .exhausted) :
    s.changesTo a x.readied (x.completion a) x.flushed (s.settleBrake a) := by
  have e : s.settleBrake a = (s.completeActive a).reachReady a := by simp only [State.settleBrake, axis, ctx, h, st]
  exact e ▸ State.changesTo_completeReady axis

theorem State.changesTo_settleBrake_stopping_completed (st : x.st = .stopping) (h : c.brakeEnd = .completed) :
    s.changesTo a x.readied (x.abortion a .stopped) x.flushed (s.settleBrake a) := by
  have e : s.settleBrake a = s.reachReady a := by simp only [State.settleBrake, axis, ctx, h, st]
  exact e ▸ axis ▸ s.changesTo_reachReady a

theorem State.changesTo_settleBrake_faultBrake_exhausted (st : x.st = .faultBrake) (h : c.brakeEnd = .exhausted) :
    s.changesTo a (x.faulted x.enaAfterBrake) (x.completion a) x.leaving (s.settleBrake a) := by
  have e : s.settleBrake a = (s.completeActive a).enterFault a x.enaAfterBrake := by simp only [State.settleBrake, axis, ctx, h, st]
  exact e ▸ State.changesTo_completeFault axis _

theorem State.changesTo_settleBrake_faultBrake_completed (st : x.st = .faultBrake) (h : c.brakeEnd = .completed) :
    s.changesTo a (x.faulted x.enaAfterBrake) (x.abortion a .fault) x.leaving (s.settleBrake a) := by
  have e : s.settleBrake a = s.enterFault a x.enaAfterBrake := by simp only [State.settleBrake, axis, ctx, h, st]
  exact e ▸ axis ▸ s.changesTo_enterFault a x.enaAfterBrake

end BrakeOverWithSegment

end BrakeOver

/-! ## How a brake stands -/

theorem Ctx.brakeEnd_exhausted {c : Ctx} {b : Brake} (h : c.brake = some b) (k : c.seg.body.total ≤ c.stepsDone) :
    c.brakeEnd = .exhausted := by simp [Ctx.brakeEnd, h, k]

theorem Ctx.brakeEnd_completed {c : Ctx} {b : Brake} (h : c.brake = some b) (k : c.stepsDone < c.seg.body.total)
    (l : b.count ≤ b.issued) : c.brakeEnd = .completed := by simp [Ctx.brakeEnd, h, Nat.not_le.mpr k, l]

theorem Ctx.brakeEnd_running {c : Ctx} {b : Brake} (h : c.brake = some b) (k : c.stepsDone < c.seg.body.total)
    (l : b.issued < b.count) : c.brakeEnd = .running := by simp [Ctx.brakeEnd, h, Nat.not_le.mpr k, Nat.not_le.mpr l]

/-! ## A first cause (R121, R122, R124) -/

theorem State.withdraw_of_ne {s : State} {a : AxisId} (h : (s.axis a).st ≠ .gate) : s.withdraw a = s := if_neg h

/-- The axis with the fault record of a first cause. -/
def State.recorded (s : State) (a : AxisId) (cause : Cause) : Axis :=
  { s.axis a with faultRecord := some (s.faultRecordOf a cause) }

/-- The Fault Raised of a first cause. -/
def State.raised (s : State) (a : AxisId) (cause : Cause) : ReportBody :=
  .faultRaised a cause (s.axis a).position (s.axis a).encoder.position (s.axis a).fe ((s.axis a).ctx.map (·.seg.tag))

/-- The record made and Fault Raised created. -/
def State.noted (s : State) (a : AxisId) (cause : Cause) : State := (s.setAxis a (s.recorded a cause)).report (s.raised a cause)

/-- The ENA level that FAULT is entered with (R122, R124). -/
def Axis.faultEna (cause : Cause) (x : Axis) : Bool :=
  if x.protection.policy cause = .halt then false else x.protection.keepEnable

theorem State.changesTo_noted (s : State) (a : AxisId) (cause : Cause) :
    s.changesTo a (s.recorded a cause) [s.raised a cause] [] (s.noted a cause) := by
  have set := s.changesTo_setAxis a (s.recorded a cause)
  have report := (s.setAxis a (s.recorded a cause)).changesTo_report a (s.raised a cause)
  rw [set.axis] at report
  exact set.trans report

section FirstCause
variable {s : State} {a : AxisId} {cause : Cause}

theorem State.firstCause_eq (s : State) (a : AxisId) (cause : Cause) :
    s.firstCause a cause =
      if (s.axis a).protection.policy cause = .halt then ((s.noted a cause).withdraw a).enterFault a false
      else if (s.axis a).stepping then ((s.noted a cause).modAxis a Axis.enterFaultBrake).settleBrake a
      else ((s.noted a cause).withdraw a).enterFault a (s.axis a).protection.keepEnable := by
  unfold State.firstCause
  dsimp only
  split
  · next halt =>
    rw [if_pos halt]
    rfl
  · next brake =>
    have ne : (s.axis a).protection.policy cause ≠ .halt := by simp [brake]
    rw [if_neg ne]
    rfl

/-- Under HALT, and on an axis that does not step, a first cause brings FAULT at once. -/
theorem State.firstCause_fault (h : (s.axis a).protection.policy cause = .halt ∨ (s.axis a).stepping = false) :
    s.firstCause a cause = ((s.noted a cause).withdraw a).enterFault a ((s.axis a).faultEna cause) := by
  rw [State.firstCause_eq, Axis.faultEna]
  by_cases halt : (s.axis a).protection.policy cause = .halt
  · rw [if_pos halt, if_pos halt]
  · rw [if_neg halt, if_neg halt, if_neg (by simp [h.resolve_left halt])]

/-- Under BRAKE a stepping axis begins its fault brake, which may be over at once. -/
theorem State.firstCause_brake (h : (s.axis a).protection.policy cause = .brake) (k : (s.axis a).stepping = true) :
    s.firstCause a cause = ((s.noted a cause).modAxis a Axis.enterFaultBrake).settleBrake a := by
  have ne : (s.axis a).protection.policy cause ≠ .halt := by simp [h]
  rw [State.firstCause_eq, if_neg ne, if_pos k]

theorem State.raiseCause_first (off : (s.axis a).st ≠ .off) (brake : (s.axis a).st ≠ .faultBrake) (fault : (s.axis a).st ≠ .fault) :
    s.raiseCause a cause = s.firstCause a cause := by
  unfold State.raiseCause
  split <;> first | contradiction | rfl

theorem State.raiseCause_later (h : (s.axis a).st = .faultBrake ∨ (s.axis a).st = .fault) :
    s.raiseCause a cause = s.laterCause a cause := by
  unfold State.raiseCause
  rcases h with h | h <;> simp [h]

/-- A first cause that brings FAULT to an axis at no barrier. -/
theorem State.changesTo_firstCause_fault (h : (s.axis a).protection.policy cause = .halt ∨ (s.axis a).stepping = false)
    (gate : (s.axis a).st ≠ .gate) :
    s.changesTo a ((s.recorded a cause).faulted ((s.axis a).faultEna cause))
      (s.raised a cause :: (s.axis a).abortion a .fault) (s.axis a).leaving (s.firstCause a cause) := by
  have noted := s.changesTo_noted a cause
  have away : ((s.noted a cause).axis a).st ≠ .gate := by rw [noted.axis]; exact gate
  rw [State.firstCause_fault h, State.withdraw_of_ne away]
  have fault := (s.noted a cause).changesTo_enterFault a ((s.axis a).faultEna cause)
  rw [noted.axis] at fault
  exact noted.trans fault

/-- The axis as its fault brake begins. -/
theorem State.changesTo_beginFaultBrake :
    s.changesTo a (s.recorded a cause).enterFaultBrake [s.raised a cause] [] ((s.noted a cause).modAxis a Axis.enterFaultBrake) := by
  have noted := s.changesTo_noted a cause
  have brake := (s.noted a cause).changesTo_modAxis a Axis.enterFaultBrake
  rw [noted.axis] at brake
  exact noted.trans brake

theorem State.changesTo_laterCause_join (h : (s.axis a).st ≠ .faultBrake ∨ (s.axis a).protection.policy cause ≠ .halt) :
    s.laterCause a cause = s.setAxis a { s.axis a with faultRecord := (s.axis a).faultRecord.map (FaultRecord.add cause) } := by
  have kept : ¬(((s.modAxis a fun x => { x with faultRecord := x.faultRecord.map (FaultRecord.add cause) }).axis a).st = .faultBrake
      && ((s.modAxis a fun x => { x with faultRecord := x.faultRecord.map (FaultRecord.add cause) }).axis a).protection.policy cause
        = .halt) = true := by
    rw [State.axis_modAxis_self]
    simp only [Bool.and_eq_true, decide_eq_true_eq, not_and]
    exact fun st halt => h.elim (· st) (· halt)
  exact if_neg kept

theorem State.changesTo_laterCause_cut (st : (s.axis a).st = .faultBrake) (halt : (s.axis a).protection.policy cause = .halt) :
    s.changesTo a (Axis.faulted false { s.axis a with faultRecord := (s.axis a).faultRecord.map (FaultRecord.add cause) })
      ((s.axis a).abortion a .fault) (s.axis a).leaving (s.laterCause a cause) := by
  have joined := s.changesTo_modAxis a fun x => { x with faultRecord := x.faultRecord.map (FaultRecord.add cause) }
  have fault := State.changesTo_enterFault (s.modAxis a fun x => { x with faultRecord := x.faultRecord.map (FaultRecord.add cause) })
    a false
  have cut : s.laterCause a cause
      = (s.modAxis a fun x => { x with faultRecord := x.faultRecord.map (FaultRecord.add cause) }).enterFault a false := by
    simp [State.laterCause, st, halt]
  rw [joined.axis] at fault
  exact cut ▸ joined.trans fault

end FirstCause

end Sys2Proof.Machine

/-!
PROOF. One step, told once (00 §2.3, log 2), and two invariants of every step: the Segment Store (R5, R6, R99) and the report
queue (R139, R141).
-/

namespace Sys2Proof.Machine

/-- `s` with other commands waiting and another count of free choices. -/
def State.withCommands (s : State) (pending : List Instr) (freeCount : Nat) : State :=
  { s with pending := pending, freeCount := freeCount }

/-- Everything that a step can do: nothing, 250 ns, or one command. -/
theorem step_cases {s t : State} (h : step s = .next t) :
    t = s ∨ t = s.passTo (s.clock + 1) ∨ ∃ c pending freeCount, exec c (s.withCommands pending freeCount) = .next t := by
  unfold step at h
  split at h
  · exact .inr (.inr ⟨_, _, _, h⟩)
  · unfold State.idle at h
    split at h
    · split at h
      · cases h
        exact .inr (.inl rfl)
      · exact .inr (.inr ⟨_, s.pending, s.freeCount, h⟩)
      · exact .inr (.inr ⟨_, s.pending, _, h⟩)
    · cases h
      exact .inl rfl

/-- What the commands and the passing of time keep, and waiting commands take no part in, a step keeps. -/
theorem step_keeps {P : State → Prop} (commands : ∀ (s : State) p n, P s → P (s.withCommands p n)) (time : ∀ (s : State) q, P s → P (s.passTo q))
    (command : ∀ c s t, exec c s = .next t → P s → P t) {s t : State} (h : step s = .next t) (w : P s) : P t := by
  obtain rfl | rfl | ⟨c, p, n, e⟩ := step_cases h
  · exact w
  · exact time s _ w
  · exact command c _ t e (commands s p n w)

/-- Settles O55. -/
theorem everyStepKeepsTheSegmentStore : Obligations.EveryStepKeepsTheSegmentStore := fun _ _ h =>
  ⟨step_keeps (P := State.poolWf) (fun _ _ _ => id) (fun s q => (s.keeps_passTo q).pool) (fun _ _ _ e => (State.keeps_exec e).pool) h,
    step_keeps (P := State.quotaWf) (fun _ _ _ => id) (fun s q => (s.keeps_passTo q).quota) (fun _ _ _ e => (State.keeps_exec e).quota) h,
    step_keeps (P := State.refCountWf) (fun _ _ _ => id) (fun s q => (s.keeps_passTo q).refs) (fun _ _ _ e => (State.keeps_exec e).refs) h⟩

/-- Settles O56. -/
theorem everyStepKeepsTheReportQueue : Obligations.EveryStepKeepsTheReportQueue := fun _ _ h =>
  ⟨step_keeps (P := fun s => s.reports.queueWf) (fun _ _ _ => id) (fun s q => (s.keeps_passTo q).order)
      (fun _ _ _ e => (State.keeps_exec e).order) h,
    step_keeps (P := fun s => s.reports.marksWf) (fun _ _ _ => id) (fun s q => (s.keeps_passTo q).marks)
      (fun _ _ _ e => (State.keeps_exec e).marks) h⟩

end Sys2Proof.Machine

/-!
PROOF. Axis states, active segments, fault records and arrival sets in agreement (R8, R26, R52, R102, R121): what a change of one axis
must show to keep them so, and that faults, brakes and departures show it.
-/

namespace Sys2Proof.Machine

/-! ## Sets of axes (R180) -/

theorem set_ext {v w : BitVec 4} (h : ∀ a, inSet v a = inSet w a) : v = w :=
  BitVec.eq_of_getLsbD_eq fun i k => h ⟨i, k⟩

@[simp] theorem inSet_axisBit (a b : AxisId) : inSet (axisBit a) b = decide (b = a) := by
  revert a b
  decide

@[simp] theorem inSet_or (v w : BitVec 4) (a : AxisId) : inSet (v ||| w) a = (inSet v a || inSet w a) := BitVec.getLsbD_or

@[simp] theorem inSet_remove (v : BitVec 4) (a b : AxisId) : inSet (v &&& ~~~axisBit a) b = (inSet v b && !decide (b = a)) := by
  have bit := inSet_axisBit a b
  simp only [inSet, BitVec.getLsbD_and, BitVec.getLsbD_not, b.isLt, decide_true, Bool.true_and] at bit ⊢
  rw [bit]

@[simp] theorem inSet_zero (a : AxisId) : inSet 0#4 a = false := by
  simp [inSet]

/-! ## One axis -/

/-- What the invariants say of one axis (R8, R26, R52, R121). -/
def Axis.wf (x : Axis) : Prop := x.recordWf ∧ x.activeWf

/-- The states that brake (R26, R52). -/
def AxisState.brakes (st : AxisState) : Prop := st = .holding ∨ st = .stopping ∨ st = .faultBrake

/-- The states without an active segment (R26). -/
def AxisState.empties (st : AxisState) : Prop := st = .off ∨ st = .ready ∨ st = .gate ∨ st = .fault

theorem Axis.activeWf_of_none {x : Axis} (h : x.ctx = none) (st : ¬x.st.brakes) : x.activeWf :=
  ⟨fun c k => by simp [h] at k, fun _ => h, fun k => absurd k st⟩

theorem Axis.activeWf_of_some {x : Axis} {c : Ctx} (h : x.ctx = some c) (head : x.queue.head? = some c.seg)
    (settle : c.phase = .settle → c.brake.isSome = true) (st : ¬x.st.empties)
    (brakes : x.st.brakes → c.seg.body.makesSteps = true ∧ c.brake.isSome = true) : x.activeWf := by
  refine ⟨fun d k => ?_, fun k => absurd k st, fun k => ⟨c, h, brakes k⟩⟩
  rw [h] at k
  cases k
  exact ⟨head, settle⟩

theorem Axis.activeWf.head {x : Axis} {c : Ctx} (w : x.activeWf) (h : x.ctx = some c) : ∃ q, x.queue = c.seg :: q := by
  obtain ⟨head, -⟩ := w.1 c h
  cases q : x.queue with
  | nil => simp [q] at head
  | cons seg rest =>
    rw [q, List.head?_cons, Option.some.injEq] at head
    exact ⟨rest, by rw [head]⟩

theorem Axis.recordWf_of_clear {x : Axis} (h : x.faultRecord = none) (st : x.st ≠ .faultBrake ∧ x.st ≠ .fault) : x.recordWf := by
  simp [Axis.recordWf, h, st]

theorem Axis.recordWf_of_set {x : Axis} (h : x.faultRecord.isSome = true) (st : x.st = .faultBrake ∨ x.st = .fault) : x.recordWf :=
  ⟨fun _ => st, fun _ => h⟩

theorem Axis.recordWf.clear {x : Axis} (w : x.recordWf) (brake : x.st ≠ .faultBrake) (fault : x.st ≠ .fault) : x.faultRecord = none := by
  rw [Axis.recordWf] at w
  simpa [brake, fault] using w

/-! ## A change of one axis -/

/-- Axis `a` is in no arrival set. -/
def State.outside (s : State) (a : AxisId) : Prop := ∀ g, inSet (s.group g).arrived a = false

/-- `t` is `s` but for axis `a`, which may leave arrival sets, and for what the axes and the sets do not read. -/
structure State.alters (s : State) (a : AxisId) (t : State) : Prop where
  others : ∀ b, b ≠ a → t.axis b = s.axis b
  members : ∀ g, (t.group g).members = (s.group g).members
  arrived : ∀ g b, b ≠ a → inSet (t.group g).arrived b = inSet (s.group g).arrived b
  fewer : ∀ g, inSet (t.group g).arrived a = true → inSet (s.group g).arrived a = true

theorem State.alters.refl (s : State) (a : AxisId) : s.alters a s := ⟨fun _ _ => rfl, fun _ => rfl, fun _ _ _ => rfl, fun _ => id⟩

theorem State.alters.trans {s t u : State} {a : AxisId} (h : s.alters a t) (k : t.alters a u) : s.alters a u where
  others b n := (k.others b n).trans (h.others b n)
  members g := (k.members g).trans (h.members g)
  arrived g b n := (k.arrived g b n).trans (h.arrived g b n)
  fewer g := h.fewer g ∘ k.fewer g

theorem State.changesTo.alters {s t : State} {a : AxisId} {y : Axis} {reports : List ReportBody} {gone : List Segment}
    (h : s.changesTo a y reports gone t) : s.alters a t where
  others := h.others
  members g := by rw [h.group]; rfl
  arrived g b _ := by rw [h.group]; rfl
  fewer g := by rw [h.group]; exact id

theorem State.alters_withdraw (s : State) (a : AxisId) : s.alters a (s.withdraw a) := by
  unfold State.withdraw
  split
  · cases (s.axis a).headGate with
    | none => exact .refl s a
    | some g =>
      have sets : ∀ h, (((s.withdrawFrom g a).group h).members = (s.group h).members)
          ∧ (∀ b, b ≠ a → inSet ((s.withdrawFrom g a).group h).arrived b = inSet (s.group h).arrived b)
          ∧ (inSet ((s.withdrawFrom g a).group h).arrived a = true → inSet (s.group h).arrived a = true) := by
        intro h
        unfold State.withdrawFrom
        rw [State.group_modGroup]
        split
        · next e =>
          subst e
          exact ⟨rfl, fun b n => by simp [n], fun k => by simp at k⟩
        · exact ⟨rfl, fun _ _ => rfl, id⟩
      exact ⟨fun _ _ => rfl, fun h => (sets h).1, fun h => (sets h).2.1, fun h => (sets h).2.2⟩
  · exact .refl s a

theorem State.axis_withdraw (s : State) (a b : AxisId) : (s.withdraw a).axis b = s.axis b := by
  unfold State.withdraw
  split
  · cases (s.axis a).headGate <;> rfl
  · rfl

theorem State.alters.outside {s t : State} {a : AxisId} (h : s.alters a t) (k : s.outside a) : t.outside a := fun g =>
  Bool.eq_false_iff.mpr fun e => by simpa [k g] using h.fewer g e

/-- Only an axis in GATE stands in an arrival set. -/
theorem State.arrivalWf.outside {s : State} {a : AxisId} (w : s.arrivalWf) (h : (s.axis a).st ≠ .gate) : s.outside a := fun g =>
  Bool.eq_false_iff.mpr fun e => h (w g a e).2.1

/-- A withdrawn axis stands in no arrival set. -/
theorem State.outside_withdraw {s : State} {a : AxisId}
    (w : ∀ g, inSet (s.group g).arrived a = true → (s.axis a).st = .gate ∧ (s.axis a).headGate = some g) :
    (s.withdraw a).outside a := fun g => Bool.eq_false_iff.mpr fun e => by
  obtain ⟨gate, head⟩ := w g ((s.alters_withdraw a).fewer g e)
  have left : s.withdraw a = s.withdrawFrom g a := by simp [State.withdraw, gate, head]
  rw [left, State.withdrawFrom, State.group_modGroup_self] at e
  simp at e

theorem State.alters.axesWf {s t : State} {a : AxisId} (h : s.alters a t) (w : s.axesWf) (out : t.outside a) (wf : (t.axis a).wf) :
    t.axesWf := by
  obtain ⟨axes, sets⟩ := w
  refine ⟨fun b => ?_, fun g b e => ?_⟩
  · by_cases n : b = a
    · exact n ▸ wf
    · rw [h.others b n]
      exact axes b
  · by_cases n : b = a
    · subst n
      simp [out g] at e
    · rw [h.members, h.others b n]
      exact sets g b (h.arrived g b n ▸ e)

/-! ## Departures, brakes and faults -/

@[simp] theorem Axis.st_departed (x : Axis) : x.departed.st = x.st := by unfold Axis.departed; cases x.ctx <;> rfl
@[simp] theorem Axis.faultRecord_departed (x : Axis) : x.departed.faultRecord = x.faultRecord := by
  unfold Axis.departed; cases x.ctx <;> rfl
@[simp] theorem Axis.ctx_departed' (x : Axis) : x.departed.ctx = none := x.ctx_departed

theorem Axis.wf_readied {x : Axis} (h : x.faultRecord = none) : x.readied.wf :=
  ⟨Axis.recordWf_of_clear (by simp [Axis.readied, h]) (by simp [Axis.readied]),
    Axis.activeWf_of_none x.ctx_departed (by simp [Axis.readied, AxisState.brakes])⟩

theorem Axis.wf_faulted {x : Axis} (ena : Bool) (h : x.faultRecord.isSome = true) : (x.faulted ena).wf :=
  ⟨Axis.recordWf_of_set (by simpa [Axis.faulted] using h) (.inr rfl),
    Axis.activeWf_of_none x.ctx_departed (by simp [Axis.faulted, AxisState.brakes])⟩

theorem Axis.wf_heldDeparted {x : Axis} (h : x.faultRecord = none) : Axis.wf { x.departed with st := .held, rate := 0 } :=
  ⟨Axis.recordWf_of_clear (by simpa using h) (by simp), Axis.activeWf_of_none x.ctx_departed (by simp [AxisState.brakes])⟩

theorem Axis.wf_heldPaused {x : Axis} {c : Ctx} (h : x.faultRecord = none) (head : x.queue.head? = some c.seg) : (x.heldPaused c).wf :=
  ⟨Axis.recordWf_of_clear h (by simp [Axis.heldPaused]),
    Axis.activeWf_of_some (c := Ctx.closeWatch { c with phase := .paused, brake := none }) rfl head
      (by simp [Ctx.closeWatch]) (by simp [Axis.heldPaused, AxisState.empties]) (by simp [Axis.heldPaused, AxisState.brakes])⟩

/-- What becomes of an axis whose brake may have ended: it is as it was, or in HELD, READY or FAULT. -/
theorem State.settleBrake_axis {s : State} {a : AxisId} (wf : (s.axis a).wf) :
    ∃ y reports gone, s.changesTo a y reports gone (s.settleBrake a) ∧ y.wf
      ∧ (y = s.axis a ∨ (s.axis a).st = .holding ∧ y.st = .held ∨ (s.axis a).st = .stopping ∧ y.st = .ready
        ∨ (s.axis a).st = .faultBrake ∧ y.st = .fault) := by
  obtain ⟨record, active⟩ := wf
  cases ctx : (s.axis a).ctx with
  | none =>
    have e : s.settleBrake a = s := by simp [State.settleBrake, ctx]
    exact e.symm ▸ ⟨_, _, _, .refl s a, ⟨record, active⟩, .inl rfl⟩
  | some c =>
    obtain ⟨head, -⟩ := active.1 c ctx
    have ends : c.brakeEnd = .running ∨ c.brakeEnd = .exhausted ∨ c.brakeEnd = .completed := by cases c.brakeEnd <;> simp
    have unmoved : s.settleBrake a = s →
        ∃ y reports gone, s.changesTo a y reports gone (s.settleBrake a) ∧ y.wf
          ∧ (y = s.axis a ∨ (s.axis a).st = .holding ∧ y.st = .held ∨ (s.axis a).st = .stopping ∧ y.st = .ready
        ∨ (s.axis a).st = .faultBrake ∧ y.st = .fault) := fun e => by
      rw [e]
      exact ⟨_, _, _, .refl s a, ⟨record, active⟩, .inl rfl⟩
    by_cases holding : (s.axis a).st = .holding
    · have clear := record.clear (by simp [holding]) (by simp [holding])
      rcases ends with k | k | k
      · exact unmoved (State.settleBrake_running rfl ctx k)
      · exact ⟨_, _, _, State.changesTo_settleBrake_holding_exhausted rfl ctx holding k, Axis.wf_heldDeparted clear, .inr (.inl ⟨holding, rfl⟩)⟩
      · rw [State.settleBrake_holding_completed rfl ctx holding k]
        by_cases settle : c.phase = .settle
        · exact ⟨_, _, _, State.changesTo_holdBrakeDone_of_settle rfl settle, Axis.wf_heldDeparted clear, .inr (.inl ⟨holding, rfl⟩)⟩
        · exact ⟨_, _, _, State.changesTo_holdBrakeDone_of_ne rfl settle, Axis.wf_heldPaused clear head, .inr (.inl ⟨holding, rfl⟩)⟩
    · by_cases stopping : (s.axis a).st = .stopping
      · have clear := record.clear (by simp [stopping]) (by simp [stopping])
        rcases ends with k | k | k
        · exact unmoved (State.settleBrake_running rfl ctx k)
        · exact ⟨_, _, _, State.changesTo_settleBrake_stopping_exhausted rfl ctx stopping k, Axis.wf_readied clear, .inr (.inr (.inl ⟨stopping, rfl⟩))⟩
        · exact ⟨_, _, _, State.changesTo_settleBrake_stopping_completed rfl ctx stopping k, Axis.wf_readied clear, .inr (.inr (.inl ⟨stopping, rfl⟩))⟩
      · by_cases faultBrake : (s.axis a).st = .faultBrake
        · have set := record.mpr (.inl faultBrake)
          rcases ends with k | k | k
          · exact unmoved (State.settleBrake_running rfl ctx k)
          · exact ⟨_, _, _, State.changesTo_settleBrake_faultBrake_exhausted rfl ctx faultBrake k, Axis.wf_faulted _ set,
              .inr (.inr (.inr ⟨faultBrake, rfl⟩))⟩
          · exact ⟨_, _, _, State.changesTo_settleBrake_faultBrake_completed rfl ctx faultBrake k, Axis.wf_faulted _ set,
              .inr (.inr (.inr ⟨faultBrake, rfl⟩))⟩
        · exact unmoved (State.settleBrake_of_st rfl ctx holding stopping faultBrake)

/-- An axis that steps has an active MOVE or SEEK (R28). -/
theorem Axis.stepping_iff (x : Axis) : x.stepping = true ↔
    (x.st = .run ∨ x.st = .holding ∨ x.st = .stopping ∨ x.st = .faultBrake) ∧ ∃ c, x.ctx = some c ∧ c.seg.body.makesSteps = true := by
  cases h : x.ctx <;> simp [Axis.stepping, h, or_assoc]

theorem Ctx.faultBrake_frame (rate : Nat) (set : AxisSettings) (c : Ctx) :
    (c.faultBrake rate set).seg = c.seg ∧ (c.faultBrake rate set).brake.isSome = true
      ∧ (c.faultBrake rate set).stepsDone = c.stepsDone := by
  cases h : c.brake <;> simp [Ctx.faultBrake, h, Ctx.closeWatch, Ctx.beginBrake]

theorem Axis.wf_enterFaultBrake {x : Axis} {c : Ctx} (ctx : x.ctx = some c) (head : x.queue.head? = some c.seg)
    (steps : c.seg.body.makesSteps = true) (record : x.faultRecord.isSome = true) : x.enterFaultBrake.wf := by
  obtain ⟨seg, brake, -⟩ := c.faultBrake_frame x.rate x.settings
  refine ⟨Axis.recordWf_of_set record (.inl rfl),
    Axis.activeWf_of_some (c := c.faultBrake x.rate x.settings) (by simp [Axis.enterFaultBrake, ctx]) ?_ (fun _ => brake)
      (by simp [Axis.enterFaultBrake, AxisState.empties]) (fun _ => ⟨seg ▸ steps, brake⟩)⟩
  rw [seg]
  exact head

/-- A raised cause leaves the axis in OFF, FAULT_BRAKE or FAULT, at no barrier (R117, R122 to R124). -/
theorem State.raiseCause_axis {s : State} {a : AxisId} (cause : Cause) (w : s.axesWf) :
    s.alters a (s.raiseCause a cause) ∧ (s.raiseCause a cause).outside a ∧ ((s.raiseCause a cause).axis a).wf
      ∧ ((s.raiseCause a cause).axis a).st ∈ ([.off, .faultBrake, .fault] : List AxisState) := by
  obtain ⟨axes, sets⟩ := w
  obtain ⟨record, active⟩ := axes a
  by_cases off : (s.axis a).st = .off
  · rw [State.raiseCause_off cause off]
    exact ⟨.refl s a, sets.outside (by simp [off]), ⟨record, active⟩, by simp [off]⟩
  by_cases faulted : (s.axis a).st = .faultBrake ∨ (s.axis a).st = .fault
  · rw [State.raiseCause_later faulted]
    have out : s.outside a := sets.outside (by rcases faulted with h | h <;> simp [h])
    have set : ((s.axis a).faultRecord.map (FaultRecord.add cause)).isSome = true := by simpa using record.mpr faulted
    by_cases cut : (s.axis a).st = .faultBrake ∧ (s.axis a).protection.policy cause = .halt
    · have change := State.changesTo_laterCause_cut cut.1 cut.2
      refine ⟨change.alters, change.alters.outside out, ?_, ?_⟩ <;> rw [change.axis]
      · exact Axis.wf_faulted _ set
      · simp [Axis.faulted]
    · have e := State.changesTo_laterCause_join (s := s) (cause := cause) (not_and_or.mp cut)
      refine ⟨e ▸ (s.changesTo_setAxis a _).alters, e ▸ ((s.changesTo_setAxis a _).alters.outside out), ?_, ?_⟩ <;>
        rw [e, State.axis_setAxis_self]
      · exact ⟨Axis.recordWf_of_set set faulted, active⟩
      · rcases faulted with h | h <;> simp [h]
  · rw [State.raiseCause_first off (fun h => faulted (.inl h)) (fun h => faulted (.inr h))]
    have noted := s.changesTo_noted a cause
    by_cases brake : (s.axis a).protection.policy cause = .halt ∨ (s.axis a).stepping = false
    · rw [State.firstCause_fault brake]
      have fault := State.changesTo_enterFault ((s.noted a cause).withdraw a) a ((s.axis a).faultEna cause)
      rw [State.axis_withdraw, noted.axis] at fault
      have left : ((s.noted a cause).withdraw a).outside a := State.outside_withdraw fun g e => by
        rw [noted.axis]
        rw [noted.group] at e
        obtain ⟨-, gate, head⟩ := sets g a e
        exact ⟨gate, head⟩
      refine ⟨(noted.alters.trans (State.alters_withdraw _ a)).trans fault.alters, fault.alters.outside left, ?_, ?_⟩ <;>
        rw [fault.axis]
      · exact Axis.wf_faulted _ rfl
      · simp [Axis.faulted]
    · rw [not_or, Bool.not_eq_false] at brake
      obtain ⟨brakes, stepping⟩ := brake
      have policy : (s.axis a).protection.policy cause = .brake := by
        cases h : (s.axis a).protection.policy cause with
        | halt => exact absurd h brakes
        | brake => rfl
      rw [State.firstCause_brake policy stepping]
      obtain ⟨st, c, ctx, steps⟩ := (s.axis a).stepping_iff.mp stepping
      have begun := s.changesTo_beginFaultBrake (a := a) (cause := cause)
      have wf : (s.recorded a cause).enterFaultBrake.wf := Axis.wf_enterFaultBrake ctx (active.1 c ctx).1 steps rfl
      obtain ⟨y, reports, gone, change, done, stands⟩ := State.settleBrake_axis (begun.axis ▸ wf)
      have out : s.outside a := sets.outside (by rcases st with h | h | h | h <;> simp [h])
      refine ⟨begun.alters.trans change.alters, change.alters.outside (begun.alters.outside out), ?_, ?_⟩ <;> rw [change.axis]
      · exact done
      · rw [begun.axis] at stands
        rcases stands with e | ⟨e, -⟩ | ⟨e, -⟩ | ⟨-, e⟩
        · simp [e, Axis.enterFaultBrake]
        · simp [Axis.enterFaultBrake] at e
        · simp [Axis.enterFaultBrake] at e
        · simp [e]

end Sys2Proof.Machine

/-!
PROOF. Steps and tasks keep the axes in agreement and come to rest (R26, R40, R102, R103): every head that is left to begin has a task
that will begin it, so that with the last task no such head is left.
-/

namespace Sys2Proof.Machine

/-! ## Work on one axis -/

/-- The axis has a head to begin: RUN, no active segment, and a queue (R32). -/
def Axis.unbegun (x : Axis) : Prop := x.st = .run ∧ x.ctx = none ∧ x.queue ≠ []

/-- A task of the list will begin or activate the head of axis `a`. -/
def willBegin (a : AxisId) (ts : List Task) : Prop := ∃ carry, .beginHead a carry ∈ ts ∨ .activate a carry ∈ ts

/-- Work on axis `a` that leaves it at no barrier, with a task for a head left to begin. -/
structure State.worksOn (s : State) (a : AxisId) (r : State × List Task) : Prop where
  alters : s.alters a r.1
  outside : r.1.outside a
  wf : (r.1.axis a).wf
  away : (r.1.axis a).st ≠ .gate
  left : (r.1.axis a).unbegun → willBegin a r.2

theorem State.worksOn.axesWf {s : State} {a : AxisId} {r : State × List Task} (h : s.worksOn a r) (w : s.axesWf) : r.1.axesWf :=
  h.alters.axesWf w h.outside h.wf

theorem State.alters.worksOn {s t : State} {a : AxisId} {r : State × List Task} (h : s.alters a t) (k : t.worksOn a r) :
    s.worksOn a r := ⟨h.trans k.alters, k.outside, k.wf, k.away, k.left⟩

/-- A change of one axis, seen as work on it. -/
theorem State.changesTo.worksOn {s t : State} {a : AxisId} {y : Axis} {reports : List ReportBody} {gone : List Segment}
    (h : s.changesTo a y reports gone t) (out : s.outside a) (wf : y.wf) (away : y.st ≠ .gate) {more : List Task}
    (left : y.unbegun → willBegin a more) : s.worksOn a (t, more) :=
  ⟨h.alters, h.alters.outside out, h.axis ▸ wf, h.axis ▸ away, h.axis ▸ left⟩

/-- A raised cause leaves no head to begin. -/
theorem State.worksOn_raiseCause {s : State} {a : AxisId} (cause : Cause) (w : s.axesWf) : s.worksOn a (s.raiseCause a cause, []) := by
  obtain ⟨alters, out, wf, st⟩ := State.raiseCause_axis (a := a) cause w
  refine ⟨alters, out, wf, fun h => ?_, fun ⟨h, _⟩ => ?_⟩ <;> simp [h] at st

/-- The axis in RUN, its segment gone, before the next head begins. -/
theorem Axis.wf_runDeparted {x y : Axis} (h : x.faultRecord = none) (st : y.st = .run) (record : y.faultRecord = x.faultRecord)
    (ctx : y.ctx = none) : y.wf :=
  ⟨Axis.recordWf_of_clear (record.trans h) (by simp [st]), Axis.activeWf_of_none ctx (by simp [st, AxisState.brakes])⟩

section AtRest
variable {s : State} {a : AxisId}

theorem State.changesTo_completeAtRest (s : State) (a : AxisId) :
    s.changesTo a { (s.axis a).departed with rate := 0 } ((s.axis a).completion a) (s.axis a).leaving (s.completeAtRest a).1 := by
  have complete := s.changesTo_completeActive a
  have rest := State.changesTo_modAxis (s.completeActive a) a fun x => { x with rate := 0 }
  rw [complete.axis] at rest
  exact (complete.trans rest).of_eq rfl (List.append_nil _) (List.append_nil _)

/-- The reports behind the completion of a MOVE: Underrun, where nothing stands behind it and its last rate is above the base rate (R41). -/
def Axis.underruns (a : AxisId) (c : Ctx) (endRate : Nat) (x : Axis) : List ReportBody :=
  if x.departed.queue = [] ∧ x.settings.baseRate < endRate then [.underrun a c.seg.tag endRate] else []

theorem Axis.settings_departed (x : Axis) : x.departed.settings = x.settings := by unfold Axis.departed; cases x.ctx <;> rfl

theorem State.changesTo_completeMove (s : State) (a : AxisId) (c : Ctx) (e : Nat) :
    s.changesTo a (s.axis a).departed ((s.axis a).completion a ++ (s.axis a).underruns a c e) (s.axis a).leaving
      (s.completeMove a c e).1 := by
  have complete := s.changesTo_completeActive a
  have empty : (((s.completeActive a).axis a).queue.isEmpty && ((s.completeActive a).axis a).settings.baseRate < e) = true
      ↔ (s.axis a).departed.queue = [] ∧ (s.axis a).settings.baseRate < e := by
    rw [complete.axis, Axis.settings_departed]
    simp
  unfold State.completeMove Axis.underruns
  dsimp only
  by_cases under : (s.axis a).departed.queue = [] ∧ (s.axis a).settings.baseRate < e
  · rw [if_pos (empty.mpr under), if_pos under]
    have report := (s.completeActive a).changesTo_report a (.underrun a c.seg.tag e)
    rw [complete.axis] at report
    exact (complete.trans report).of_eq rfl rfl (List.append_nil _)
  · rw [if_neg (fun h => under (empty.mp h)), if_neg under, List.append_nil]
    exact complete

/-- What an issued step does to its segment, on an axis with an active segment or at rest. -/
theorem State.worksOn_stepEffects (w : s.axesWf) (away : (s.axis a).st ≠ .gate) (begun : ¬(s.axis a).unbegun) :
    s.worksOn a (s.stepEffects a) := by
  obtain ⟨axes, sets⟩ := w
  obtain ⟨record, active⟩ := axes a
  have out : s.outside a := sets.outside away
  have unmoved : s.worksOn a (s, []) := ⟨.refl s a, out, ⟨record, active⟩, away, fun h => absurd h begun⟩
  unfold State.stepEffects
  cases ctx : (s.axis a).ctx with
  | none => exact unmoved
  | some c =>
    dsimp only
    split
    · next run =>
      have clear : (s.axis a).faultRecord = none := record.clear (by simp [run]) (by simp [run])
      have rest : s.worksOn a (s.completeAtRest a) :=
        (s.changesTo_completeAtRest a).worksOn out
          (Axis.wf_runDeparted clear (by simp [run]) (by simp) (by simp)) (by simp [run]) fun _ => ⟨none, .inl (List.mem_singleton.mpr rfl)⟩
      split
      · cases c.brakeEnd with
        | running => exact unmoved
        | exhausted | completed => exact rest
      · split
        · cases c.seg.body with
          | move _ _ e _ =>
            exact (s.changesTo_completeMove a c e).worksOn out
              (Axis.wf_runDeparted clear (by simp [run]) (by simp) (by simp)) (by simp [run])
              fun _ => ⟨c.lastStep, .inl (List.mem_singleton.mpr rfl)⟩
          | seek =>
            exact (State.changesTo_completeHeld rfl).worksOn out (Axis.wf_heldDeparted clear) (by simp) fun h => by
              simp [Axis.unbegun] at h
          | dwell | mark => exact unmoved
        · exact unmoved
    · next run =>
      obtain ⟨y, reports, gone, change, wf, stands⟩ := State.settleBrake_axis (s := s) (a := a) ⟨record, active⟩
      have off : y.st ≠ .gate ∧ y.st ≠ .run := by
        rcases stands with rfl | ⟨-, e⟩ | ⟨-, e⟩ | ⟨-, e⟩
        · exact ⟨away, run⟩
        all_goals simp [e]
      exact change.worksOn out wf off.1 fun h => absurd h.1 off.2

theorem Ctx.afterStep_frame (now : Nat) (c : Ctx) :
    (c.afterStep now).seg = c.seg ∧ (c.afterStep now).phase = c.phase ∧ (c.afterStep now).brake.isSome = c.brake.isSome := by
  refine ⟨rfl, rfl, ?_⟩
  unfold Ctx.afterStep
  cases c.phase <;> simp

/-- Another context for the same segment, in the same phase, with a brake if there was one. -/
theorem Axis.activeWf.setCtx {x y : Axis} {c d : Ctx} (w : x.activeWf) (ctx : x.ctx = some c) (set : y.ctx = some d) (st : y.st = x.st)
    (queue : y.queue = x.queue) (seg : d.seg = c.seg) (phase : d.phase = .settle → c.phase = .settle ∨ d.brake.isSome = true)
    (brake : c.brake.isSome = true → d.brake.isSome = true) : y.activeWf := by
  obtain ⟨active, empties, brakes⟩ := w
  obtain ⟨head, settle⟩ := active c ctx
  refine Axis.activeWf_of_some set (by rw [queue, seg, head]) (fun h => ?_) (fun h => ?_) (fun h => ?_)
  · rcases phase h with k | k
    · exact brake (settle k)
    · exact k
  · rw [st] at h
    simpa [ctx] using empties h
  · rw [st] at h
    obtain ⟨e, ctx', steps, braked⟩ := brakes h
    rw [ctx] at ctx'
    cases ctx'
    exact ⟨seg ▸ steps, brake braked⟩

theorem Axis.issueStep_frame (now : Nat) (c : Ctx) (x : Axis) :
    (x.issueStep now c).st = x.st ∧ (x.issueStep now c).queue = x.queue ∧ (x.issueStep now c).faultRecord = x.faultRecord
      ∧ (x.issueStep now c).ctx = some (c.afterStep now) := by
  unfold Axis.issueStep
  rw [Axis.endPulseIfOver_frame]
  exact ⟨rfl, rfl, rfl, rfl⟩

theorem Axis.recordWf_congr {x y : Axis} (st : y.st = x.st) (record : y.faultRecord = x.faultRecord) (w : x.recordWf) : y.recordWf := by
  rwa [Axis.recordWf, st, record]

theorem Axis.wf_issueStep {x : Axis} {c : Ctx} (now : Nat) (ctx : x.ctx = some c) (w : x.wf) : (x.issueStep now c).wf := by
  obtain ⟨st, queue, record, set⟩ := x.issueStep_frame now c
  obtain ⟨seg, phase, brake⟩ := c.afterStep_frame now
  exact ⟨Axis.recordWf_congr st record w.1,
    w.2.setCtx ctx set st queue seg (fun h => .inl (phase ▸ h)) (fun h => by rw [brake, h])⟩

/-- An issued step, on an axis with an active segment. -/
theorem State.worksOn_issueStep (w : s.axesWf) {c : Ctx} (ctx : (s.axis a).ctx = some c) : s.worksOn a (s.issueStep a) := by
  have active : (s.axis a).st ≠ .gate := fun h => by simpa [ctx] using (w.1 a).2.2.1 (.inr (.inr (.inl h)))
  have issued := s.changesTo_modAxis a (Axis.issueStep s.clock c)
  obtain ⟨st, -, -, set⟩ := (s.axis a).issueStep_frame s.clock c
  have wf : (s.modAxis a (Axis.issueStep s.clock c)).axesWf :=
    issued.alters.axesWf w (issued.alters.outside (w.2.outside active)) (issued.axis ▸ Axis.wf_issueStep _ ctx (w.1 a))
  simp only [State.issueStep, ctx]
  refine issued.alters.worksOn ?_
  unfold State.evaluateFollow
  split
  · have raised := State.worksOn_raiseCause (a := a) .follow wf
    exact raised.alters.worksOn (State.worksOn_stepEffects (raised.axesWf wf) raised.away fun h => by simpa [willBegin] using raised.left h)
  · refine State.worksOn_stepEffects wf ?_ fun h => ?_
    · rw [issued.axis, st]
      exact active
    · rw [issued.axis, Axis.unbegun, set] at h
      simp at h

theorem Axis.wf_undelayed {x : Axis} {c : Ctx} (delayed : Option Nat) (ctx : x.ctx = some c) (w : x.wf) :
    Axis.wf { x with ctx := some { c with delayed := delayed } } :=
  ⟨w.1, w.2.setCtx ctx rfl rfl rfl rfl .inl id⟩

/-- A raised later cause leaves the active segment of a fault brake that goes on. -/
theorem Axis.wf.ctx_of_faultBrake {x : Axis} (w : x.wf) (h : x.st = .faultBrake) : ∃ c, x.ctx = some c :=
  have ⟨c, ctx, _⟩ := w.2.2.2 (.inr (.inr h))
  ⟨c, ctx⟩

theorem State.worksOn_attemptStep (w : s.axesWf) {c : Ctx} (ctx : (s.axis a).ctx = some c) : s.worksOn a (s.attemptStep a) := by
  have active : (s.axis a).st ≠ .gate := fun h => by simpa [ctx] using (w.1 a).2.2.1 (.inr (.inr (.inl h)))
  have begun := s.changesTo_modAxis a fun x => { x with ctx := some { c with delayed := none } }
  have wf : (s.modAxis a fun x => { x with ctx := some { c with delayed := none } }).axesWf :=
    begun.alters.axesWf w (begun.alters.outside (w.2.outside active)) (begun.axis ▸ Axis.wf_undelayed none ctx (w.1 a))
  simp only [State.attemptStep, ctx]
  refine begun.alters.worksOn ?_
  split
  · have raised := State.worksOn_raiseCause (a := a) (limitOf c.seg.body.dir).2 wf
    split
    · next goesOn =>
      simp only [Bool.and_eq_true, decide_eq_true_eq] at goesOn
      obtain ⟨d, ctx'⟩ := raised.wf.ctx_of_faultBrake goesOn.2
      exact raised.alters.worksOn (State.worksOn_issueStep (raised.axesWf wf) ctx')
    · exact raised
  · exact State.worksOn_issueStep wf (c := { c with delayed := none }) (by simp)

theorem Axis.wf_endPulseIfOver {x : Axis} (now : Nat) (w : x.wf) : (x.endPulseIfOver now).wf := by
  rw [Axis.endPulseIfOver_frame]
  exact w

/-- A step that falls due is nothing, or work on its axis. -/
theorem State.stepFallsDue_cases (w : s.axesWf) : s.stepFallsDue a = (s, []) ∨ s.worksOn a (s.stepFallsDue a) := by
  unfold State.stepFallsDue
  dsimp only
  have wf := Axis.wf_endPulseIfOver s.clock (w.1 a)
  have st : ((s.axis a).endPulseIfOver s.clock).st = (s.axis a).st := by rw [Axis.endPulseIfOver_frame]
  generalize (s.axis a).endPulseIfOver s.clock = x at wf st
  cases ctx : x.ctx with
  | none => exact .inl rfl
  | some c =>
    have active : x.st ≠ .gate := fun h => by simpa [ctx] using wf.2.2.1 (.inr (.inr (.inl h)))
    have out : s.outside a := w.2.outside (st ▸ active)
    have turned : (x.turnDir s.clock c.seg.body.dir).wf ∧ (x.turnDir s.clock c.seg.body.dir).ctx = some c := ⟨wf, ctx⟩
    dsimp only
    split
    · refine .inr ?_
      split
      · have set := s.changesTo_setAxis a (x.turnDir s.clock c.seg.body.dir)
        exact set.alters.worksOn (State.worksOn_attemptStep
          (set.alters.axesWf w (set.alters.outside out) (by rw [set.axis]; exact turned.1)) (by rw [set.axis]; exact turned.2))
      · exact (s.changesTo_setAxis a _).worksOn out (Axis.wf_undelayed _ turned.2 turned.1) active fun h => by
          simp [Axis.unbegun] at h
    · exact .inl rfl

end AtRest

/-! ## Rest, with tasks still to do -/

/-- Between tasks: a head that is left to begin has its task; an axis in GATE has arrived, or has a task; and no arrival set is
complete. -/
def State.restWith (s : State) (ts : List Task) : Prop :=
  (∀ a, (s.axis a).unbegun → willBegin a ts)
    ∧ (∀ a, (s.axis a).st = .gate →
        ∃ g, (s.axis a).headGate = some g ∧ (inSet (s.group g).arrived a = true ∨ ∃ carry, .activate a carry ∈ ts))
    ∧ ∀ g, (s.group g).members ≠ 0 → (s.group g).arrived ≠ (s.group g).members

theorem State.restWith_nil {s : State} : s.restWith [] ↔ s.restWf := by
  simp [State.restWith, State.restWf, Axis.unbegun, willBegin]

/-- The axis that a task names. -/
def Task.axis : Task → AxisId
  | .beginHead a _ => a
  | .activate a _ => a
  | .stepNow a => a

/-- Fewer arrived axes complete no set. -/
theorem State.alters.incomplete {s t : State} {a : AxisId} (h : s.alters a t) (w : s.arrivalWf) {g : GroupId}
    (r : (s.group g).members ≠ 0 → (s.group g).arrived ≠ (s.group g).members) :
    (t.group g).members ≠ 0 → (t.group g).arrived ≠ (t.group g).members := by
  rw [h.members]
  refine fun nonempty complete => r nonempty (set_ext fun b => ?_)
  refine Bool.eq_iff_iff.mpr ⟨fun e => (w g b e).1, fun e => ?_⟩
  rw [← complete] at e
  by_cases n : b = a
  · exact n ▸ h.fewer g (n ▸ e)
  · rw [← h.arrived g b n]
    exact e

/-- Work on one axis uses up its task and leaves the others theirs. -/
theorem State.worksOn.restWith {s : State} {a : AxisId} {r : State × List Task} {t : Task} {ts : List Task} (h : s.worksOn a r)
    (w : s.axesWf) (rest : s.restWith (t :: ts)) (own : t.axis = a) : r.1.restWith (r.2 ++ ts) := by
  obtain ⟨begins, gates, sets⟩ := rest
  have others : ∀ b u, b ≠ a → u ∈ t :: ts → u.axis = b → u ∈ r.2 ++ ts := fun b u n m e => by
    rcases List.mem_cons.mp m with rfl | m
    · exact absurd (e.symm.trans own) n
    · exact List.mem_append_right _ m
  refine ⟨fun b u => ?_, fun b u => ?_, fun g => h.alters.incomplete w.2 (sets g)⟩
  · by_cases n : b = a
    · subst n
      obtain ⟨carry, m⟩ := h.left u
      exact ⟨carry, m.imp (List.mem_append_left _) (List.mem_append_left _)⟩
    · rw [h.alters.others b n] at u
      obtain ⟨carry, m⟩ := begins b u
      exact ⟨carry, m.imp (others b _ n · rfl) (others b _ n · rfl)⟩
  · by_cases n : b = a
    · exact absurd (n ▸ u) h.away
    · rw [h.alters.others b n] at u ⊢
      obtain ⟨g, head, m⟩ := gates b u
      refine ⟨g, head, m.imp (fun e => h.alters.arrived g b n ▸ e) fun ⟨carry, m⟩ => ⟨carry, others b _ n m rfl⟩⟩

end Sys2Proof.Machine

/-!
PROOF. Beginnings, activations, arrivals and releases keep the axes in agreement, and the tasks of one event bring the block to rest
(R26, R32, R40, R102, R103).
-/

namespace Sys2Proof.Machine

/-! ## The occasions on which a head begins (R32, R102) -/

theorem State.inNoArrivalSet_iff (s : State) (a : AxisId) : s.inNoArrivalSet a = true ↔ s.outside a := by
  simp only [State.inNoArrivalSet, State.outside, List.all_eq_true, Vector.mem_toList_iff, Vector.mem_iff_getElem, Bool.not_eq_true']
  exact ⟨fun h g => h _ ⟨g.val, g.isLt, rfl⟩, fun h x ⟨i, k, e⟩ => e ▸ h ⟨i, k⟩⟩

theorem State.mayBegin_iff (s : State) (a : AxisId) : s.mayBegin a = true ↔ s.mayStart a := by
  have states : ((s.axis a).st = .ready || (s.axis a).st = .held || (s.axis a).st = .run || (s.axis a).st = .gate) = true
      ↔ (s.axis a).st ∈ ([.ready, .held, .run, .gate] : List AxisState) := by simp [or_assoc]
  unfold State.mayBegin
  dsimp only
  rw [Bool.and_eq_true, Bool.and_eq_true, s.inNoArrivalSet_iff, Option.isNone_iff_eq_none, states]
  exact and_assoc

theorem newCtx_frame (seg : Segment) (carry : Option Nat) :
    (newCtx seg carry).seg = seg ∧ (newCtx seg carry).phase ≠ .settle ∧ (newCtx seg carry).stepsDone = 0
      ∧ (newCtx seg carry).delayed = none := by
  refine ⟨rfl, ?_, rfl, rfl⟩
  unfold newCtx
  cases seg.body <;> simp

section MayStart
variable {s : State} {a : AxisId}

/-- An axis that may start holds no fault record and brakes nothing. -/
theorem State.mayStart.clear (m : s.mayStart a) (w : s.axesWf) : (s.axis a).faultRecord = none := by
  obtain ⟨-, st, -⟩ := m
  exact (w.1 a).1.clear (fun h => by simp [h] at st) (fun h => by simp [h] at st)

theorem State.worksOn_starve (m : s.mayStart a) (w : s.axesWf) (empty : (s.axis a).queue = []) : s.worksOn a (s.starve a, []) :=
  (s.changesTo_modAxis a fun x => { x with st := .run, rate := 0 }).worksOn m.2.2
    (Axis.wf_runDeparted (m.clear w) rfl rfl m.1) (by simp) fun h => absurd empty h.2.2

/-- The axis with its head active (R32 step 2). -/
theorem State.changesTo_setActive (s : State) (a : AxisId) (k : Ctx) :
    s.changesTo a { s.axis a with st := .run, ctx := some k } [] [] (s.modAxis a fun x => { x with st := .run, ctx := some k }) :=
  s.changesTo_modAxis a fun x => { x with st := .run, ctx := some k }

theorem Axis.wf_setActive {x : Axis} {seg : Segment} {q : List Segment} {k : Ctx} (clear : x.faultRecord = none)
    (queue : x.queue = seg :: q) (frame : k.seg = seg ∧ k.phase ≠ .settle) : Axis.wf { x with st := .run, ctx := some k } :=
  ⟨Axis.recordWf_of_clear clear (by simp),
    Axis.activeWf_of_some rfl (by rw [queue, frame.1]; rfl) (fun h => absurd h frame.2) (by simp [AxisState.empties])
      (by simp [AxisState.brakes])⟩

theorem State.worksOn_activate (m : s.mayStart a) (w : s.axesWf) {seg : Segment} {q : List Segment} (queue : (s.axis a).queue = seg :: q)
    (carry : Option Nat) : s.worksOn a (s.activate a carry) := by
  have clear := m.clear w
  unfold State.activate
  rw [if_pos ((s.mayBegin_iff a).mpr m), queue]
  dsimp only
  generalize (if (s.axis a).rate = 0 then none else carry) = carry'
  have set := s.changesTo_setActive a (newCtx seg carry')
  obtain ⟨head, phase, -, -⟩ := newCtx_frame seg carry'
  have wf := Axis.wf_setActive clear queue ⟨head, phase⟩
  have begun : s.worksOn a (s.modAxis a fun x => { x with st := .run, ctx := some (newCtx seg carry') }, []) :=
    set.worksOn m.2.2 wf (by simp) fun h => by simp [Axis.unbegun] at h
  cases seg.body with
  | move | seek => exact ⟨begun.alters, begun.outside, begun.wf, begun.away, fun h => by simpa [willBegin] using begun.left h⟩
  | dwell =>
    have still := State.changesTo_modAxis (s.modAxis a fun x => { x with st := .run, ctx := some (newCtx seg carry') }) a
      fun x => { x with rate := 0 }
    rw [set.axis] at still
    exact (set.trans still).worksOn m.2.2 wf (by simp) fun h => by simp [Axis.unbegun] at h
  | mark =>
    have complete := State.changesTo_completeActive (s.modAxis a fun x => { x with st := .run, ctx := some (newCtx seg carry') }) a
    rw [set.axis] at complete
    refine (set.trans complete).worksOn m.2.2 (Axis.wf_runDeparted clear (by simp) (by simp) (by simp)) (by simp) fun _ => ?_
    exact ⟨carry', .inl (List.mem_singleton.mpr rfl)⟩

/-! ## Arrival and release (R102, R103) -/

/-- The head of the queue is gated on a group that has the axis as a member (R99). -/
theorem State.refCountWf.member (r : s.refCountWf) {seg : Segment} {q : List Segment} (queue : (s.axis a).queue = seg :: q) {g : GroupId}
    (gate : seg.gate = some g) : inSet (s.group g).members a = true :=
  (r g).2 a seg (queue ▸ List.mem_cons_self ..) gate

theorem Axis.headGate_cons {x : Axis} {seg : Segment} {q : List Segment} (h : x.queue = seg :: q) : x.headGate = seg.gate := by
  simp [Axis.headGate, h]

@[simp] theorem State.setAxis_setAxis (s : State) (a : AxisId) (x y : Axis) : (s.setAxis a x).setAxis a y = s.setAxis a y := by
  simp [State.setAxis]

@[simp] theorem State.setGroup_setGroup (s : State) (g : GroupId) (x y : Group) :
    (s.setGroup g x).setGroup g y = s.setGroup g y := by simp [State.setGroup]

theorem State.setGroup_setAxis (s : State) (a : AxisId) (g : GroupId) (x : Axis) (y : Group) :
    (s.setAxis a x).setGroup g y = (s.setGroup g y).setAxis a x := rfl

theorem State.modAxis_eq (s : State) (a : AxisId) (f : Axis → Axis) : s.modAxis a f = s.setAxis a (f (s.axis a)) := rfl

/-- A release is `released`, and each member has its head to activate. -/
theorem State.release_eq (s : State) (g : GroupId) :
    s.release g = (s.released g, (axesOf (s.group g).members).map fun m => .activate m none) := by
  unfold State.release State.released
  dsimp only
  split <;> rfl

/-- An arrival that does not complete the set waits (R102). -/
theorem State.arrive_of_incomplete {g : GroupId} (h : (s.group g).arrived ||| axisBit a ≠ (s.group g).members) :
    s.waitsAt a g (s.arrive a g).1 ∧ (s.arrive a g).2 = [] := by
  have timer : ((s.group g).arrived = 0 && (s.group g).timeout != 0) = true ↔ (s.group g).arrived = 0 ∧ (s.group g).timeout ≠ 0 := by
    simp
  simp only [State.arrive, if_neg h, State.waitsAt, State.modAxis_eq, State.setAxis_setAxis, State.axis_setAxis_self,
    State.axis_setGroup, State.setGroup_setAxis, timer, and_true]

/-- An arrival that completes the set releases the group (R103). -/
theorem State.arrive_of_complete {g : GroupId} (h : (s.group g).arrived ||| axisBit a = (s.group g).members) :
    s.arrive a g = ((s.setAxis a { s.axis a with rate := 0 }).released g,
      (axesOf (s.group g).members).map fun m => .activate m none) := by
  simp only [State.arrive, if_pos h, State.release_eq, State.released, State.modAxis_eq, State.axis_setGroup, State.group_setAxis,
    State.group_setGroup_self, State.setGroup_setAxis, State.setGroup_setGroup, State.reports_setAxis, State.reports_setGroup,
    State.deviceTime_setAxis, State.deviceTime_setGroup]

/-- The axes and sets after an arrival or a release: one axis changes, and the set of one group. -/
structure State.meets (s : State) (a : AxisId) (g : GroupId) (y : Axis) (arrived : BitVec 4) (t : State) : Prop where
  axis : t.axis a = y
  others : ∀ b, b ≠ a → t.axis b = s.axis b
  set : (t.group g).arrived = arrived
  sets : ∀ h, h ≠ g → (t.group h).arrived = (s.group h).arrived
  members : ∀ h, (t.group h).members = (s.group h).members

/-- The entries after one has other values but the same members. -/
theorem State.meets_of_setGroup {s t : State} {a : AxisId} {g : GroupId} {y : Axis} {x : Group} (members : x.members = (s.group g).members)
    (axes : ∀ b, t.axis b = (s.setAxis a y).axis b) (groups : ∀ h, t.group h = (s.setGroup g x).group h) :
    s.meets a g y x.arrived t where
  axis := by rw [axes, State.axis_setAxis_self]
  others b n := by rw [axes, State.axis_setAxis_ne s y n]
  set := by rw [groups, State.group_setGroup_self]
  sets h n := by rw [groups, State.group_setGroup_ne s x n]
  members h := by
    rw [groups, State.group_setGroup]
    split
    · next e => rw [e, members]
    · rfl

theorem State.meets_of_waitsAt {t : State} {g : GroupId} (h : s.waitsAt a g t) :
    s.meets a g { s.axis a with st := .gate, rate := 0 } ((s.group g).arrived ||| axisBit a) t :=
  State.meets_of_setGroup (x := { s.group g with arrived := (s.group g).arrived ||| axisBit a, timer := _ }) rfl
    (fun _ => by rw [h]; rfl) (fun _ => by rw [h]; rfl)

theorem State.meets_released (s : State) (a : AxisId) (g : GroupId) (y : Axis) : s.meets a g y 0 ((s.setAxis a y).released g) :=
  State.meets_of_setGroup (x := { s.group g with arrived := 0, timer := none, round := (s.group g).round + 1 }) rfl
    (fun _ => rfl) (fun _ => rfl)

theorem mem_axesOf (set : BitVec 4) (a : AxisId) : a ∈ axesOf set ↔ inSet set a = true := by
  revert set a
  decide

end MayStart

end Sys2Proof.Machine

/-!
PROOF. Every task keeps the axes in agreement, and all that one event sets going comes to rest (R26, R40, R102, R103).
-/

namespace Sys2Proof.Machine

section Arrivals
variable {s t : State} {a : AxisId} {g : GroupId}

/-! ## An arrival -/

/-- An axis that may start stands in GATE with its head's group, and waits there. -/
theorem State.meets.axesWf_gate {arrived : BitVec 4} (h : s.meets a g { s.axis a with st := .gate, rate := 0 } arrived t) (m : s.mayStart a)
    (w : s.axesWf) (member : inSet (s.group g).members a = true) (head : (s.axis a).headGate = some g)
    (set : arrived = (s.group g).arrived ||| axisBit a) : t.axesWf := by
  have clear := m.clear w
  obtain ⟨axes, sets⟩ := w
  obtain ⟨idle, -, out⟩ := m
  refine ⟨fun b => ?_, fun k b e => ?_⟩
  · by_cases n : b = a
    · subst n
      rw [h.axis]
      exact ⟨Axis.recordWf_of_clear clear (by simp), Axis.activeWf_of_none idle (by simp [AxisState.brakes])⟩
    · rw [h.others b n]
      exact axes b
  · rw [h.members]
    by_cases n : b = a
    · subst n
      rw [h.axis]
      by_cases own : k = g
      · subst own
        exact ⟨member, rfl, head⟩
      · rw [h.sets k own, out k] at e
        cases e
    · rw [h.others b n]
      refine sets k b ?_
      by_cases own : k = g
      · subst own
        rw [h.set, set] at e
        simpa [n] using e
      · rw [h.sets k own] at e
        exact e

/-- A set that empties, of an axis that may start. -/
theorem State.meets.axesWf_release (h : s.meets a g { s.axis a with rate := 0 } 0 t) (m : s.mayStart a) (w : s.axesWf) : t.axesWf := by
  obtain ⟨axes, sets⟩ := w
  obtain ⟨-, -, out⟩ := m
  refine ⟨fun b => ?_, fun k b e => ?_⟩
  · by_cases n : b = a
    · subst n
      rw [h.axis]
      exact axes b
    · rw [h.others b n]
      exact axes b
  · by_cases own : k = g
    · subst own
      simp [h.set] at e
    · rw [h.sets k own] at e
      have n : b ≠ a := fun n => by simp [n, out k] at e
      rw [h.members, h.others b n]
      exact sets k b e

/-! ## Every task keeps the axes in agreement -/

theorem State.axesWf_beginHead (w : s.axesWf) (r : s.refCountWf) (carry : Option Nat) : (s.beginHead a carry).1.axesWf := by
  unfold State.beginHead
  split
  · next may =>
    have m := (s.mayBegin_iff a).mp may
    cases queue : (s.axis a).queue with
    | nil => exact (State.worksOn_starve m w queue).axesWf w
    | cons seg q =>
      dsimp only
      cases gate : seg.gate with
      | none => exact w
      | some g =>
        by_cases complete : (s.group g).arrived ||| axisBit a = (s.group g).members
        · simp only [State.arrive_of_complete complete]
          exact (s.meets_released a g _).axesWf_release m w
        · exact (State.meets_of_waitsAt (State.arrive_of_incomplete complete).1).axesWf_gate m w (r.member queue gate)
            ((Axis.headGate_cons queue).trans gate) rfl
  · exact w

theorem State.axesWf_activate (w : s.axesWf) (carry : Option Nat) : (s.activate a carry).1.axesWf := by
  cases may : s.mayBegin a with
  | false =>
    rw [State.activate, if_neg (by simp [may])]
    exact w
  | true =>
    cases queue : (s.axis a).queue with
    | nil =>
      rw [State.activate, if_pos may, queue]
      exact w
    | cons seg q => exact (State.worksOn_activate ((s.mayBegin_iff a).mp may) w queue carry).axesWf w

theorem State.axesWf_runTask (w : s.axesWf) (r : s.refCountWf) (t : Task) : (s.runTask t).1.axesWf := by
  cases t with
  | beginHead a carry => exact State.axesWf_beginHead w r carry
  | activate a carry => exact State.axesWf_activate w carry
  | stepNow a =>
    show (s.stepFallsDue a).1.axesWf
    obtain e | h := State.stepFallsDue_cases (a := a) w
    · rw [e]
      exact w
    · exact h.axesWf w

theorem State.axesWf_settle (w : s.axesWf) (r : s.refCountWf) (ts : List Task) : (s.settle ts).axesWf :=
  (s.settle_induction (P := fun u _ => u.axesWf ∧ u.refCountWf)
    (fun u t _ ⟨w, r⟩ => ⟨State.axesWf_runTask w r t, (u.keeps_runTask t).refs r⟩) ts ⟨w, r⟩).1

/-! ## Every task leaves a task for what is left to begin -/

/-- With other tasks that do as much. -/
theorem State.restWith.mono {ts us : List Task} (h : s.restWith ts) (begins : ∀ b, (s.axis b).unbegun → willBegin b ts → willBegin b us)
    (activates : ∀ b carry, (s.axis b).st = .gate → .activate b carry ∈ ts → ∃ carry, .activate b carry ∈ us) : s.restWith us := by
  obtain ⟨unbegun, gates, sets⟩ := h
  refine ⟨fun b u => begins b u (unbegun b u), fun b u => ?_, sets⟩
  obtain ⟨g, head, m⟩ := gates b u
  exact ⟨g, head, m.imp_right fun ⟨carry, m⟩ => activates b carry u m⟩

/-- A head that is left to begin may begin. -/
theorem Axis.unbegun.mayStart (u : (s.axis a).unbegun) (w : s.axesWf) : s.mayStart a :=
  ⟨u.2.1, by simp [u.1], w.2.outside (by simp [u.1])⟩

theorem State.restWith_waits {ts : List Task} {carry : Option Nat} (h : s.meets a g { s.axis a with st := .gate, rate := 0 }
    ((s.group g).arrived ||| axisBit a) t) (incomplete : (s.group g).arrived ||| axisBit a ≠ (s.group g).members)
    (head : (s.axis a).headGate = some g) (rest : s.restWith (.beginHead a carry :: ts)) : t.restWith ts := by
  obtain ⟨unbegun, gates, sets⟩ := rest
  refine ⟨fun b u => ?_, fun b u => ?_, fun k => ?_⟩
  · have n : b ≠ a := fun n => by simp [n, h.axis, Axis.unbegun] at u
    rw [h.others b n] at u
    obtain ⟨c, m⟩ := unbegun b u
    exact ⟨c, by simpa [n] using m⟩
  · by_cases n : b = a
    · subst n
      rw [h.axis]
      exact ⟨g, head, .inl (by simp [h.set])⟩
    · rw [h.others b n] at u ⊢
      obtain ⟨k, gate, m⟩ := gates b u
      refine ⟨k, gate, m.imp (fun e => ?_) fun ⟨c, m⟩ => ⟨c, by simpa using m⟩⟩
      by_cases own : k = g
      · subst own
        simp [h.set, e]
      · rw [h.sets k own]
        exact e
  · rw [h.members]
    by_cases own : k = g
    · subst own
      rw [h.set]
      exact fun _ => incomplete
    · rw [h.sets k own]
      exact sets k

theorem State.restWith_release {ts : List Task} {carry : Option Nat} (h : s.meets a g { s.axis a with rate := 0 } 0 t) (w : s.axesWf)
    (complete : (s.group g).arrived ||| axisBit a = (s.group g).members) (head : (s.axis a).headGate = some g)
    (rest : s.restWith (.beginHead a carry :: ts)) :
    t.restWith ((axesOf (s.group g).members).map (fun m => .activate m none) ++ ts) := by
  obtain ⟨unbegun, gates, sets⟩ := rest
  have released : ∀ b, inSet (s.group g).members b = true →
      .activate b none ∈ (axesOf (s.group g).members).map (fun m => Task.activate m none) ++ ts := fun b m =>
    List.mem_append_left _ (List.mem_map.mpr ⟨b, (mem_axesOf _ b).mpr m, rfl⟩)
  have own : inSet (s.group g).members a = true := by rw [← complete]; simp
  refine ⟨fun b u => ?_, fun b u => ?_, fun k => ?_⟩
  · by_cases n : b = a
    · subst n
      exact ⟨none, .inr (released b own)⟩
    · rw [h.others b n] at u
      obtain ⟨c, m⟩ := unbegun b u
      exact ⟨c, m.imp (fun m => List.mem_append_right _ (by simpa [n] using m)) fun m => List.mem_append_right _ (by simpa using m)⟩
  · by_cases n : b = a
    · subst n
      rw [h.axis] at u ⊢
      exact ⟨g, head, .inr ⟨none, released b own⟩⟩
    · rw [h.others b n] at u ⊢
      obtain ⟨k, gate, m⟩ := gates b u
      refine ⟨k, gate, ?_⟩
      rcases m with e | ⟨c, m⟩
      · by_cases same : k = g
        · subst same
          exact .inr ⟨none, released b (w.2 k b e).1⟩
        · rw [h.sets k same]
          exact .inl e
      · exact .inr ⟨c, List.mem_append_right _ (by simpa using m)⟩
  · rw [h.members]
    by_cases same : k = g
    · subst same
      rw [h.set]
      exact fun nonempty => nonempty.symm
    · rw [h.sets k same]
      exact sets k

theorem State.restWith_beginHead {ts : List Task} {carry : Option Nat} (w : s.axesWf)
    (rest : s.restWith (.beginHead a carry :: ts)) : (s.beginHead a carry).1.restWith ((s.beginHead a carry).2 ++ ts) := by
  unfold State.beginHead
  split
  · next may =>
    have m := (s.mayBegin_iff a).mp may
    cases queue : (s.axis a).queue with
    | nil => exact (State.worksOn_starve m w queue).restWith w rest rfl
    | cons seg q =>
      dsimp only
      cases gate : seg.gate with
      | none =>
        refine rest.mono (fun b _ ⟨c, m⟩ => ?_) fun b c _ m => ⟨c, List.mem_cons_of_mem _ (by simpa using m)⟩
        by_cases n : b = a
        · exact ⟨carry, .inr (by simp [n])⟩
        · exact ⟨c, by simpa [n] using m⟩
      | some g =>
        have head := (Axis.headGate_cons queue).trans gate
        by_cases complete : (s.group g).arrived ||| axisBit a = (s.group g).members
        · simp only [State.arrive_of_complete complete]
          exact State.restWith_release (s.meets_released a g _) w complete head rest
        · obtain ⟨waits, none⟩ := State.arrive_of_incomplete complete
          simp only [none]
          exact State.restWith_waits (State.meets_of_waitsAt waits) complete head rest
  · next may =>
    refine rest.mono (fun b u ⟨c, m⟩ => ?_) fun b c _ m => ⟨c, by simpa using m⟩
    have n : b ≠ a := fun n => may ((s.mayBegin_iff a).mpr (n ▸ u.mayStart w))
    exact ⟨c, by simpa [n] using m⟩

/-- An axis in GATE with a head that has not arrived may have it activated. -/
theorem State.mayStart_of_gate (w : s.axesWf) (st : (s.axis a).st = .gate) (head : (s.axis a).headGate = some g)
    (absent : inSet (s.group g).arrived a = false) : s.mayStart a := by
  refine ⟨(w.1 a).2.2.1 (.inr (.inr (.inl st))), by simp [st], fun k => Bool.eq_false_iff.mpr fun e => ?_⟩
  have named := (w.2 k a e).2.2
  rw [head, Option.some.injEq] at named
  rw [named, e] at absent
  cases absent

theorem State.restWith_activate {ts : List Task} {carry : Option Nat} (w : s.axesWf)
    (rest : s.restWith (.activate a carry :: ts)) : (s.activate a carry).1.restWith ((s.activate a carry).2 ++ ts) := by
  have unmoved : (s.mayStart a → (s.axis a).queue = []) → s.restWith ts := fun idle => by
    obtain ⟨unbegun, gates, sets⟩ := rest
    refine ⟨fun b u => ?_, fun b u => ?_, sets⟩
    · have n : b ≠ a := fun n => (n ▸ u).2.2 (idle (n ▸ u.mayStart w))
      obtain ⟨c, m⟩ := unbegun b u
      exact ⟨c, by simpa [n] using m⟩
    · obtain ⟨k, gate, m⟩ := gates b u
      refine ⟨k, gate, ?_⟩
      by_cases arrived : inSet (s.group k).arrived b = true
      · exact .inl arrived
      · have n : b ≠ a := fun n => by
          subst n
          have empty := idle (State.mayStart_of_gate w u gate (Bool.eq_false_iff.mpr arrived))
          simp [Axis.headGate, empty] at gate
        obtain ⟨c, m⟩ := m.resolve_left arrived
        exact .inr ⟨c, by simpa [n] using m⟩
  cases may : s.mayBegin a with
  | false =>
    rw [State.activate, if_neg (by simp [may])]
    exact unmoved fun m => by simp [(s.mayBegin_iff a).mpr m] at may
  | true =>
    cases queue : (s.axis a).queue with
    | nil =>
      rw [State.activate, if_pos may, queue]
      exact unmoved fun _ => queue
    | cons seg q => exact (State.worksOn_activate ((s.mayBegin_iff a).mp may) w queue carry).restWith w rest rfl

theorem State.restWith_runTask {ts : List Task} {task : Task} (w : s.axesWf) (rest : s.restWith (task :: ts)) :
    (s.runTask task).1.restWith ((s.runTask task).2 ++ ts) := by
  cases task with
  | beginHead a carry => exact State.restWith_beginHead w rest
  | activate a carry => exact State.restWith_activate w rest
  | stepNow a =>
    show (s.stepFallsDue a).1.restWith ((s.stepFallsDue a).2 ++ ts)
    obtain e | h := State.stepFallsDue_cases (a := a) w
    · rw [e]
      exact rest.mono (fun b _ ⟨c, m⟩ => ⟨c, by simpa using m⟩) fun b c _ m => ⟨c, by simpa using m⟩
    · exact h.restWith w rest rfl

/-- With all that it sets going, one event ends with no head left to begin. -/
theorem State.restWf_settle {ts : List Task} (w : s.axesWf) (r : s.refCountWf) (rest : s.restWith ts) : (s.settle ts).restWf :=
  State.restWith_nil.mp (s.settle_induction (P := fun u us => u.axesWf ∧ u.refCountWf ∧ u.restWith us)
    (fun u t _ ⟨w, r, rest⟩ => ⟨State.axesWf_runTask w r t, (u.keeps_runTask t).refs r, State.restWith_runTask w rest⟩) ts ⟨w, r, rest⟩).2.2

end Arrivals

end Sys2Proof.Machine

/-!
PROOF. Steps done never exceed the steps of a segment, a step that waits is one that the segment still has, and a DIR change waits only
while STEP is high (R28, R171): through faults, brakes, departures and tasks.
-/

namespace Sys2Proof.Machine

/-! ## Axes that step no further -/

/-- R28 and R171 on one axis. -/
def Axis.stepsWf (x : Axis) : Prop :=
  (∀ c, x.ctx = some c → c.stepsWf) ∧ (x.output.turnTo.isSome = true → x.output.high = true)

/-- From `x` to `y` no step is made and none begins to wait: the outputs are as they were, and an active segment was active before, as far
as it is now. -/
structure Axis.noFurther (x y : Axis) : Prop where
  output : y.output = x.output
  active : ∀ d, y.ctx = some d → ∃ c, x.ctx = some c ∧ d.seg = c.seg ∧ d.stepsDone = c.stepsDone
    ∧ (d.delayed.isSome = true → c.delayed.isSome = true)

theorem Axis.noFurther_of_same {x y : Axis} (output : y.output = x.output) (ctx : y.ctx = x.ctx) : x.noFurther y :=
  ⟨output, fun d h => ⟨d, ctx ▸ h, rfl, rfl, id⟩⟩

theorem Axis.noFurther_of_none {x y : Axis} (output : y.output = x.output) (ctx : y.ctx = none) : x.noFurther y :=
  ⟨output, fun d h => by simp [ctx] at h⟩

theorem Axis.noFurther_of_some {x y : Axis} {c d : Ctx} (output : y.output = x.output) (ctx : x.ctx = some c) (set : y.ctx = some d)
    (seg : d.seg = c.seg) (done : d.stepsDone = c.stepsDone) (delayed : d.delayed.isSome = true → c.delayed.isSome = true) :
    x.noFurther y :=
  ⟨output, fun e h => by
    rw [set] at h
    cases h
    exact ⟨c, ctx, seg, done, delayed⟩⟩

theorem Axis.noFurther.refl (x : Axis) : x.noFurther x := Axis.noFurther_of_same rfl rfl

theorem Axis.noFurther.trans {x y z : Axis} (h : x.noFurther y) (k : y.noFurther z) : x.noFurther z :=
  ⟨k.output.trans h.output, fun e m => by
    obtain ⟨d, ctx, seg, done, delayed⟩ := k.active e m
    obtain ⟨c, ctx', seg', done', delayed'⟩ := h.active d ctx
    exact ⟨c, ctx', seg.trans seg', done.trans done', delayed' ∘ delayed⟩⟩

theorem Axis.noFurther.stepsWf {x y : Axis} (h : x.noFurther y) (w : x.stepsWf) : y.stepsWf := by
  refine ⟨fun d m => ?_, by rw [h.output]; exact w.2⟩
  obtain ⟨c, ctx, seg, done, delayed⟩ := h.active d m
  obtain ⟨room, waits⟩ := w.1 c ctx
  exact ⟨by rw [seg, done]; exact room, by rw [seg, done]; exact waits ∘ delayed⟩

/-- No axis steps further from `s` to `t`. -/
def State.noFurther (s t : State) : Prop := ∀ a, (s.axis a).noFurther (t.axis a)

theorem State.noFurther.trans {s t u : State} (h : s.noFurther t) (k : t.noFurther u) : s.noFurther u := fun a => (h a).trans (k a)

theorem State.noFurther_of_axes {s t : State} (h : ∀ a, t.axis a = s.axis a) : s.noFurther t := fun a => by
  rw [h a]
  exact .refl _

theorem State.noFurther.refl (s : State) : s.noFurther s := State.noFurther_of_axes fun _ => rfl

theorem State.noFurther.stepsWf {s t : State} (h : s.noFurther t) (w : s.stepsWf) : t.stepsWf := fun a => (h a).stepsWf (w a)

section NoFurther
variable {s t : State} {a : AxisId}

theorem State.changesTo.noFurther {y : Axis} {reports : List ReportBody} {gone : List Segment} (h : s.changesTo a y reports gone t)
    (k : (s.axis a).noFurther y) : s.noFurther t := fun b => by
  by_cases e : b = a
  · rw [e, h.axis]
    exact k
  · rw [h.others b e]
    exact .refl _

theorem State.changesTo.stepsWf {y : Axis} {reports : List ReportBody} {gone : List Segment} (h : s.changesTo a y reports gone t)
    (w : s.stepsWf) (k : y.stepsWf) : t.stepsWf := fun b => by
  by_cases e : b = a
  · rw [e, h.axis]
    exact k
  · rw [h.others b e]
    exact w b

theorem Axis.output_departed (x : Axis) : x.departed.output = x.output := by unfold Axis.departed; cases x.ctx <;> rfl

theorem Axis.noFurther_departed (x : Axis) : x.noFurther x.departed := Axis.noFurther_of_none x.output_departed x.ctx_departed

theorem State.noFurther_completeActive (s : State) (a : AxisId) : s.noFurther (s.completeActive a) :=
  (s.changesTo_completeActive a).noFurther (s.axis a).noFurther_departed

theorem State.noFurther_modAxis (s : State) (a : AxisId) {f : Axis → Axis}
    (h : ∀ x : Axis, x.noFurther (f x) := by exact fun _ => Axis.noFurther_of_same rfl rfl) : s.noFurther (s.modAxis a f) :=
  (s.changesTo_modAxis a f).noFurther (h _)

theorem State.noFurther_enterHeld (s : State) (a : AxisId) : s.noFurther (s.enterHeld a) := by
  unfold State.enterHeld
  exact s.noFurther_modAxis a

theorem State.noFurther_reachReady (s : State) (a : AxisId) : s.noFurther (s.reachReady a) :=
  (s.changesTo_reachReady a).noFurther (Axis.noFurther_of_none (s.axis a).output_departed (s.axis a).ctx_departed)

theorem State.noFurther_enterFault (s : State) (a : AxisId) (ena : Bool) : s.noFurther (s.enterFault a ena) :=
  (s.changesTo_enterFault a ena).noFurther (Axis.noFurther_of_none (s.axis a).output_departed (s.axis a).ctx_departed)

theorem State.noFurther_withdraw (s : State) (a : AxisId) : s.noFurther (s.withdraw a) := State.noFurther_of_axes (s.axis_withdraw a)

theorem State.noFurther_dropTail (s : State) (a : AxisId) (keep : Nat) : s.noFurther (s.dropTail a keep) :=
  (State.changesTo_dropTail s a keep).noFurther (Axis.noFurther_of_same rfl rfl)

theorem State.noFurther_holdBrakeDone {c : Ctx} (ctx : (s.axis a).ctx = some c) : s.noFurther (s.holdBrakeDone a c) := by
  by_cases settle : c.phase = .settle
  · exact (State.changesTo_holdBrakeDone_of_settle rfl settle).noFurther
      (Axis.noFurther_of_none (s.axis a).output_departed (s.axis a).ctx_departed)
  · exact (State.changesTo_holdBrakeDone_of_ne rfl settle).noFurther (Axis.noFurther_of_some rfl ctx rfl rfl rfl id)

theorem State.noFurther_settleBrake (s : State) (a : AxisId) : s.noFurther (s.settleBrake a) := by
  obtain e | ⟨c, ctx, -, -, e⟩ | ⟨u, done, e⟩ := s.settleBrake_cases a
  · exact e.symm ▸ .refl s
  · exact e.symm ▸ State.noFurther_holdBrakeDone ctx
  · have h : s.noFurther u := by
      rcases done with rfl | rfl
      · exact .refl _
      · exact s.noFurther_completeActive a
    obtain ⟨e, -, -⟩ | ⟨e, -⟩ | ⟨e, -⟩ := e
    · exact e ▸ h.trans (u.noFurther_enterHeld a)
    · exact e ▸ h.trans (u.noFurther_reachReady a)
    · exact e ▸ h.trans (u.noFurther_enterFault a _)

theorem Ctx.delayed_faultBrake (rate : Nat) (set : AxisSettings) (c : Ctx) :
    (c.faultBrake rate set).delayed.isSome = true → c.delayed.isSome = true := by
  cases h : c.brake <;> simp [Ctx.faultBrake, h, Ctx.closeWatch, Ctx.beginBrake]

theorem Axis.noFurther_enterFaultBrake (x : Axis) : x.noFurther x.enterFaultBrake := by
  cases ctx : x.ctx with
  | none => exact Axis.noFurther_of_none rfl (by simp [Axis.enterFaultBrake, ctx])
  | some c =>
    obtain ⟨seg, -, done⟩ := c.faultBrake_frame x.rate x.settings
    exact Axis.noFurther_of_some rfl ctx (by simp only [Axis.enterFaultBrake, ctx, Option.map_some]) seg done (c.delayed_faultBrake _ _)

theorem State.noFurther_firstCause (s : State) (a : AxisId) (cause : Cause) : s.noFurther (s.firstCause a cause) := by
  have noted : s.noFurther (s.noted a cause) := (s.changesTo_noted a cause).noFurther (Axis.noFurther_of_same rfl rfl)
  by_cases fault : (s.axis a).protection.policy cause = .halt ∨ (s.axis a).stepping = false
  · rw [State.firstCause_fault fault]
    exact (noted.trans (State.noFurther_withdraw _ a)).trans (State.noFurther_enterFault _ a _)
  · obtain ⟨brake, stepping⟩ := not_or.mp fault
    have policy : (s.axis a).protection.policy cause = .brake := by
      cases h : (s.axis a).protection.policy cause with
      | halt => exact absurd h brake
      | brake => rfl
    rw [State.firstCause_brake policy (Bool.not_eq_false _ ▸ stepping)]
    have recorded : (s.axis a).noFurther (s.recorded a cause) := Axis.noFurther_of_same rfl rfl
    exact ((State.changesTo_beginFaultBrake (cause := cause)).noFurther (recorded.trans
      (Axis.noFurther_enterFaultBrake _))).trans (State.noFurther_settleBrake _ a)

theorem State.noFurther_laterCause (s : State) (a : AxisId) (cause : Cause) : s.noFurther (s.laterCause a cause) := by
  have joined : s.noFurther (s.modAxis a fun x => { x with faultRecord := x.faultRecord.map (FaultRecord.add cause) }) :=
    s.noFurther_modAxis a
  unfold State.laterCause
  dsimp only
  split
  · exact joined.trans (State.noFurther_enterFault _ a false)
  · exact joined

theorem State.noFurther_raiseCause (s : State) (a : AxisId) (cause : Cause) : s.noFurther (s.raiseCause a cause) := by
  unfold State.raiseCause
  cases (s.axis a).st with
  | off => exact .refl s
  | faultBrake | fault => exact s.noFurther_laterCause a cause
  | ready | run | gate | holding | held | stopping => exact s.noFurther_firstCause a cause

theorem State.noFurther_evaluateFollow (s : State) (a : AxisId) : s.noFurther (s.evaluateFollow a) := by
  unfold State.evaluateFollow
  split
  · exact s.noFurther_raiseCause a _
  · exact .refl s

theorem State.noFurther_completeAtRest (s : State) (a : AxisId) : s.noFurther (s.completeAtRest a).1 :=
  (s.changesTo_completeAtRest a).noFurther (Axis.noFurther_of_none (s.axis a).output_departed (s.axis a).ctx_departed)

theorem State.noFurther_stepEffects (s : State) (a : AxisId) : s.noFurther (s.stepEffects a).1 := by
  unfold State.stepEffects
  cases (s.axis a).ctx with
  | none => exact .refl s
  | some c =>
    dsimp only
    split
    · split
      · cases c.brakeEnd with
        | running => exact .refl s
        | exhausted | completed => exact s.noFurther_completeAtRest a
      · split
        · cases c.seg.body with
          | move _ _ e _ => exact (s.changesTo_completeMove a c e).noFurther (s.axis a).noFurther_departed
          | seek => exact (s.noFurther_completeActive a).trans (State.noFurther_enterHeld _ a)
          | dwell | mark => exact .refl s
        · exact .refl s
    · exact s.noFurther_settleBrake a

/-! ## Steps -/

theorem Axis.stepsWf_issueStep (now : Nat) {c : Ctx} (x : Axis) (room : c.stepsDone < c.seg.body.total) :
    (x.issueStep now c).stepsWf := by
  obtain ⟨-, -, -, set⟩ := x.issueStep_frame now c
  refine ⟨fun d h => ?_, fun _ => rfl⟩
  rw [set] at h
  cases h
  exact ⟨fun _ => room, fun h => by simp [Ctx.afterStep] at h⟩

theorem State.stepsWf_issueStep (w : s.stepsWf) (room : ∀ c, (s.axis a).ctx = some c → c.stepsDone < c.seg.body.total) :
    (s.issueStep a).1.stepsWf := by
  unfold State.issueStep
  cases ctx : (s.axis a).ctx with
  | none => exact w
  | some c =>
    exact ((State.noFurther_evaluateFollow _ a).trans (State.noFurther_stepEffects _ a)).stepsWf
      ((s.changesTo_modAxis a _).stepsWf w ((s.axis a).stepsWf_issueStep _ (room c ctx)))

theorem State.stepsWf_attemptStep (w : s.stepsWf) (room : ∀ c, (s.axis a).ctx = some c → c.stepsDone < c.seg.body.total) :
    (s.attemptStep a).1.stepsWf := by
  unfold State.attemptStep
  cases ctx : (s.axis a).ctx with
  | none => exact w
  | some c =>
    have begun : s.noFurther (s.modAxis a fun x => { x with ctx := some { c with delayed := none } }) :=
      (s.changesTo_modAxis a _).noFurther (Axis.noFurther_of_some rfl ctx rfl rfl rfl fun h => by simp at h)
    have issued : ∀ {t : State}, s.noFurther t → (t.issueStep a).1.stepsWf := fun {t} h =>
      State.stepsWf_issueStep (h.stepsWf w) fun d m => by
        obtain ⟨k, ctx', seg, done, -⟩ := (h a).active d m
        rw [seg, done]
        exact room k ctx'
    dsimp only
    split
    · have raised := begun.trans (State.noFurther_raiseCause _ a (limitOf c.seg.body.dir).2)
      split
      · exact issued raised
      · exact raised.stepsWf w
    · exact issued begun

/-- The outputs of an axis whose pulse may have ended. -/
theorem Axis.stepsWf_endPulseIfOver {x : Axis} (now : Nat) (w : x.stepsWf) : (x.endPulseIfOver now).stepsWf := by
  unfold Axis.endPulseIfOver
  split
  · refine ⟨w.1, ?_⟩
    unfold Axis.endPulse StepOutput.endPulse
    cases x.output.turnTo <;> simp [StepOutput.turn]
  · exact w

theorem Axis.stepsWf_turnDir {x : Axis} (now : Nat) (dir : Dir) (w : x.stepsWf) : (x.turnDir now dir).stepsWf := by
  refine ⟨w.1, ?_⟩
  unfold Axis.turnDir
  dsimp only
  split
  · simp
  · split
    · next high => exact fun _ => high
    · simp [StepOutput.turn]

theorem Ctx.room_of_hasNextStep {c : Ctx} (h : c.hasNextStep = true) : c.stepsDone < c.seg.body.total := by
  simp only [Ctx.hasNextStep, Bool.and_eq_true, decide_eq_true_eq] at h
  exact h.1.2

theorem State.stepsWf_stepFallsDue (w : s.stepsWf) : (s.stepFallsDue a).1.stepsWf := by
  unfold State.stepFallsDue
  dsimp only
  have wf : ((s.axis a).endPulseIfOver s.clock).stepsWf := Axis.stepsWf_endPulseIfOver s.clock (w a)
  generalize (s.axis a).endPulseIfOver s.clock = x at wf
  cases ctx : x.ctx with
  | none => exact w
  | some c =>
    dsimp only
    split
    · next next =>
      simp only [Bool.and_eq_true] at next
      have room := Ctx.room_of_hasNextStep next.1.2
      have turned := Axis.stepsWf_turnDir s.clock c.seg.body.dir wf
      have same : (x.turnDir s.clock c.seg.body.dir).ctx = some c := ctx
      split
      · refine State.stepsWf_attemptStep ((s.changesTo_setAxis a _).stepsWf w turned) fun d m => ?_
        rw [State.axis_setAxis_self, same] at m
        cases m
        exact room
      · refine (s.changesTo_setAxis a _).stepsWf w ⟨fun d m => ?_, turned.2⟩
        cases m
        exact ⟨(turned.1 c same).1, fun _ => room⟩
    · exact w

/-! ## Tasks -/

theorem Axis.stepsWf_setActive {x : Axis} {st : AxisState} (seg : Segment) (carry : Option Nat) (w : x.stepsWf) :
    Axis.stepsWf { x with st := st, ctx := some (newCtx seg carry) } :=
  ⟨fun c h => by
    cases h
    exact ⟨fun _ => Nat.zero_le _, fun h => by simp [newCtx] at h⟩, w.2⟩

theorem State.meets.noFurther {g : GroupId} {y : Axis} {arrived : BitVec 4} (h : s.meets a g y arrived t) (k : (s.axis a).noFurther y) :
    s.noFurther t := fun b => by
  by_cases e : b = a
  · rw [e, h.axis]
    exact k
  · rw [h.others b e]
    exact .refl _

theorem State.noFurther_beginHead (s : State) (a : AxisId) (carry : Option Nat) : s.noFurther (s.beginHead a carry).1 := by
  unfold State.beginHead
  split
  · cases (s.axis a).queue with
    | nil =>
      unfold State.starve
      exact s.noFurther_modAxis a
    | cons seg q =>
      dsimp only
      cases seg.gate with
      | none => exact .refl s
      | some g =>
        by_cases complete : (s.group g).arrived ||| axisBit a = (s.group g).members
        · simp only [State.arrive_of_complete complete]
          exact (s.meets_released a g _).noFurther (Axis.noFurther_of_same rfl rfl)
        · exact (State.meets_of_waitsAt (State.arrive_of_incomplete complete).1).noFurther (Axis.noFurther_of_same rfl rfl)
  · exact .refl s

theorem State.stepsWf_activate (w : s.stepsWf) (carry : Option Nat) : (s.activate a carry).1.stepsWf := by
  unfold State.activate
  split
  · cases (s.axis a).queue with
    | nil => exact w
    | cons seg q =>
      dsimp only
      generalize (if (s.axis a).rate = 0 then none else carry) = carry'
      have active : (s.modAxis a fun x => { x with st := .run, ctx := some (newCtx seg carry') }).stepsWf :=
        (s.changesTo_setActive a _).stepsWf w (Axis.stepsWf_setActive seg carry' (w a))
      cases seg.body with
      | move | seek => exact active
      | dwell =>
        dsimp only
        exact (State.noFurther_modAxis _ a).stepsWf active
      | mark => exact (State.noFurther_completeActive _ a).stepsWf active
  · exact w

theorem State.stepsWf_runTask (w : s.stepsWf) (t : Task) : (s.runTask t).1.stepsWf := by
  cases t with
  | beginHead a carry => exact (s.noFurther_beginHead a carry).stepsWf w
  | activate a carry => exact State.stepsWf_activate w carry
  | stepNow a => exact State.stepsWf_stepFallsDue w

theorem State.stepsWf_settle (w : s.stepsWf) (ts : List Task) : (s.settle ts).stepsWf :=
  State.runTasks_keeps (P := State.stepsWf) (fun _ t h => State.stepsWf_runTask h t) _ ts s w

end NoFurther

end Sys2Proof.Machine

/-!
PROOF. The requests keep the axes in agreement and at rest (R8, R26, R40, R52, R102, R103, R121).
-/

namespace Sys2Proof.Machine

/-! ## What a command must show -/

/-- The reference counts are right and the axes agree. -/
def State.fits (s : State) : Prop := s.refCountWf ∧ s.axesWf

/-- From agreeing axes to agreeing axes, from rest to rest, and from steps within their segments to the same. -/
structure State.steadies (s t : State) : Prop where
  fits : s.fits → t.fits
  rest : s.fits → s.restWf → t.restWf
  steps : s.stepsWf → t.stepsWf

theorem State.steadies.refl (s : State) : s.steadies s := ⟨id, fun _ => id, id⟩

theorem State.steadies.trans {s t u : State} (h : s.steadies t) (k : t.steadies u) : s.steadies u :=
  ⟨k.fits ∘ h.fits, fun w r => k.rest (h.fits w) (h.rest w r), k.steps ∘ h.steps⟩

/-- An axis with the same state, whose head is left to begin only if it was. -/
structure Axis.sameMode (x y : Axis) : Prop where
  st : y.st = x.st
  wf : x.wf → y.wf
  gate : ∀ g, x.st = .gate → x.headGate = some g → y.headGate = some g
  unbegun : x.wf → y.unbegun → x.unbegun
  steps : x.stepsWf → y.stepsWf

theorem Axis.sameMode.refl (x : Axis) : x.sameMode x := ⟨rfl, id, fun _ _ => id, fun _ => id, id⟩

/-- Another context for the same segment; everything else that the invariants read is as it was. -/
theorem Axis.sameMode_setCtx {x y : Axis} {c d : Ctx} (ctx : x.ctx = some c) (set : y.ctx = some d) (st : y.st = x.st)
    (queue : y.queue = x.queue) (record : y.faultRecord = x.faultRecord) (seg : d.seg = c.seg) (phase : d.phase = c.phase)
    (brake : d.brake = c.brake) (further : x.noFurther y) : x.sameMode y where
  st := st
  wf w := ⟨Axis.recordWf_congr st record w.1,
    w.2.setCtx ctx set st queue seg (fun h => .inl (phase ▸ h)) (fun h => brake ▸ h)⟩
  gate g _ h := by rwa [Axis.headGate, queue]
  unbegun _ h := by simp [Axis.unbegun, set] at h
  steps := further.stepsWf

/-- Every axis in its mode, and every arrival set as it was. -/
theorem State.steadies_of_sameMode {s t : State} (refs : s.refCountWf → t.refCountWf) (axes : ∀ a, (s.axis a).sameMode (t.axis a))
    (groups : ∀ g, (t.group g).arrived = (s.group g).arrived ∧ (t.group g).members = (s.group g).members) : s.steadies t where
  fits := fun ⟨r, w⟩ => ⟨refs r, fun a => (axes a).wf (w.1 a), fun g a e => by
    obtain ⟨arrived, members⟩ := groups g
    rw [arrived] at e
    obtain ⟨member, gate, head⟩ := w.2 g a e
    exact ⟨members ▸ member, (axes a).st.trans gate, (axes a).gate g gate head⟩⟩
  rest := fun ⟨_, w⟩ => by
    simp only [← State.restWith_nil]
    intro ⟨unbegun, gates, sets⟩
    refine ⟨fun a u => unbegun a ((axes a).unbegun (w.1 a) u), fun a u => ?_, fun g => ?_⟩
    · rw [(axes a).st] at u
      obtain ⟨g, head, m⟩ := gates a u
      exact ⟨g, (axes a).gate g u head, by simpa [(groups g).1] using m⟩
    · rw [(groups g).1, (groups g).2]
      exact sets g
  steps w a := (axes a).steps (w a)

section Steady
variable {s t : State} {a : AxisId}

/-- The axes and the groups untouched. -/
theorem State.steadies_of_eq (axes : ∀ a, t.axis a = s.axis a) (groups : ∀ g, t.group g = s.group g) : s.steadies t :=
  State.steadies_of_sameMode (by simp only [State.refCountWf, axes, groups, imp_self]) (fun a => by rw [axes a]; exact .refl _)
    fun g => by rw [groups g]; exact ⟨rfl, rfl⟩

theorem State.steadies_setAxis {x : Axis} (k : s.keeps (s.setAxis a x)) (h : (s.axis a).sameMode x) : s.steadies (s.setAxis a x) :=
  State.steadies_of_sameMode k.refs (fun b => by
    rw [State.axis_setAxis]
    split
    · next e => exact e ▸ h
    · exact .refl _) fun _ => ⟨rfl, rfl⟩

theorem State.steadies_modAxis (s : State) (a : AxisId) {f : Axis → Axis}
    (k : ∀ x : Axis, x.sameStore (f x) := by exact fun _ => ⟨rfl, rfl, rfl, rfl, rfl⟩)
    (h : ∀ x : Axis, x.sameMode (f x) := by exact fun _ => ⟨rfl, id, fun _ _ => id, fun _ => id, id⟩) : s.steadies (s.modAxis a f) :=
  State.steadies_setAxis (s.keeps_modAxis a k) (h _)

/-- Work on one axis that leaves no task. -/
theorem State.steadies_of_worksOn (k : s.keeps t) (steps : s.stepsWf → t.stepsWf) (h : s.fits → s.worksOn a (t, [])) : s.steadies t where
  steps := steps
  fits w := ⟨k.refs w.1, (h w).axesWf w.2⟩
  rest w r := by
    have none : s.restWith [.stepNow a] := (State.restWith_nil.mpr r).mono (fun _ _ ⟨c, m⟩ => ⟨c, by simp at m⟩) fun _ _ _ m => by
      simp at m
    exact State.restWith_nil.mp ((h w).restWith w.2 none rfl)

/-- Work on one axis with all that it sets going. -/
theorem State.steadies_settleAll {r : State × List Task} (k : s.keeps r.1) (steps : s.stepsWf → r.1.stepsWf)
    (h : s.fits → s.worksOn a r) : s.steadies (settleAll r) where
  steps w := State.stepsWf_settle (steps w) r.2
  fits w := ⟨(k.trans (State.keeps_settle _ _)).refs w.1, State.axesWf_settle ((h w).axesWf w.2) (k.refs w.1) _⟩
  rest w rest := by
    have none : s.restWith [.stepNow a] := (State.restWith_nil.mpr rest).mono (fun _ _ ⟨c, m⟩ => ⟨c, by simp at m⟩) fun _ _ _ m => by
      simp at m
    refine State.restWf_settle ((h w).axesWf w.2) (k.refs w.1) ?_
    simpa using (h w).restWith w.2 none rfl

/-- Tasks worked off, from rest. -/
theorem State.steadies_settle (s : State) (ts : List Task) : s.steadies (s.settle ts) where
  steps w := State.stepsWf_settle w ts
  fits w := ⟨(s.keeps_settle ts).refs w.1, State.axesWf_settle w.2 w.1 ts⟩
  rest w r := State.restWf_settle w.2 w.1
    ((State.restWith_nil.mpr r).mono (fun _ _ ⟨c, m⟩ => ⟨c, by simp at m⟩) fun _ _ _ m => by simp at m)

theorem State.steadies_raiseCause (s : State) (a : AxisId) (cause : Cause) : s.steadies (s.raiseCause a cause) :=
  State.steadies_of_worksOn (s.keeps_raiseCause a cause) (s.noFurther_raiseCause a cause).stepsWf fun w => State.worksOn_raiseCause cause w.2

theorem State.steadies_evaluateFollow (s : State) (a : AxisId) : s.steadies (s.evaluateFollow a) := by
  unfold State.evaluateFollow
  split
  · exact s.steadies_raiseCause a _
  · exact .refl s

theorem State.steadies_takeSilence (s : State) (a : AxisId) : s.steadies (s.takeSilence a) := by
  unfold State.takeSilence
  split
  · exact (s.steadies_modAxis a).trans (State.steadies_raiseCause _ a _)
  · exact .refl s

theorem State.steadies_takeSilences (s : State) : s.steadies s.takeSilences :=
  (((s.steadies_takeSilence 0).trans (State.steadies_takeSilence _ 1)).trans (State.steadies_takeSilence _ 2)).trans
    (State.steadies_takeSilence _ 3)

/-- A change of one axis that stands at no barrier, to a state in agreement with no head left to begin. -/
theorem State.steadies_of_changesTo {y : Axis} {reports : List ReportBody} {gone : List Segment} (k : s.keeps t)
    (h : s.changesTo a y reports gone t) (gate : (s.axis a).st ≠ .gate) (wf : (s.axis a).wf → y.wf) (st : y.st ≠ .gate)
    (unbegun : (s.axis a).wf → ¬y.unbegun) (further : (s.axis a).noFurther y) : s.steadies t :=
  State.steadies_of_worksOn k (h.noFurther further).stepsWf fun w =>
    h.worksOn (w.2.2.outside gate) (wf (w.2.1 a)) st fun u => absurd u (unbegun (w.2.1 a))

/-! ## The Axis Controllers -/

theorem State.steadies_settleBrake (s : State) (a : AxisId) (gate : (s.axis a).st ≠ .gate) (run : (s.axis a).st ≠ .run) :
    s.steadies (s.settleBrake a) := by
  refine State.steadies_of_worksOn (s.keeps_settleBrake a) (s.noFurther_settleBrake a).stepsWf (a := a) fun w => ?_
  obtain ⟨y, reports, gone, change, wf, stands⟩ := State.settleBrake_axis (w.2.1 a)
  have st : y.st ≠ .gate ∧ y.st ≠ .run := by
    rcases stands with rfl | ⟨-, e⟩ | ⟨-, e⟩ | ⟨-, e⟩
    · exact ⟨gate, run⟩
    all_goals simp [e]
  exact change.worksOn (w.2.2.outside gate) wf st.1 fun u => absurd u.1 st.2

/-- An axis without an active segment or fault record, in a state that brakes nothing and is no fault. -/
theorem Axis.wf_of_idle {x : Axis} (ctx : x.ctx = none) (record : x.faultRecord = none) (st : ¬x.st.brakes) (fault : x.st ≠ .fault) :
    x.wf :=
  ⟨Axis.recordWf_of_clear record ⟨fun h => st (.inr (.inr h)), fault⟩, Axis.activeWf_of_none ctx st⟩

theorem State.steadies_enable (h : (s.axis a).st = .off) : s.steadies (s.modAxis a fun x => { x with st := .ready, ena := true }) :=
  State.steadies_of_changesTo (s.keeps_modAxis a) (s.changesTo_modAxis a fun x => { x with st := .ready, ena := true }) (by simp [h])
    (fun w => Axis.wf_of_idle (w.2.2.1 (.inl h)) (w.1.clear (by simp [h]) (by simp [h])) (by simp [AxisState.brakes]) (by simp))
    (by simp) (fun _ u => by simp [Axis.unbegun] at u) (Axis.noFurther_of_same rfl rfl)

theorem State.steadies_disable (h : (s.axis a).st = .ready) :
    s.steadies (s.modAxis a fun x => { x with st := .off, ena := false, rate := 0 }) :=
  State.steadies_of_changesTo (s.keeps_modAxis a) (s.changesTo_modAxis a fun x => { x with st := .off, ena := false, rate := 0 })
    (by simp [h])
    (fun w => Axis.wf_of_idle (w.2.2.1 (.inr (.inl h))) (w.1.clear (by simp [h]) (by simp [h])) (by simp [AxisState.brakes]) (by simp))
    (by simp) (fun _ u => by simp [Axis.unbegun] at u) (Axis.noFurther_of_same rfl rfl)

theorem Axis.wf.head {x : Axis} {c : Ctx} (w : x.wf) (h : x.ctx = some c) : x.queue.head? = some c.seg := (w.2.1 c h).1

theorem Axis.wf.not_empties {x : Axis} {c : Ctx} (w : x.wf) (h : x.ctx = some c) : ¬x.st.empties := fun e => by
  simpa [h] using w.2.2.1 e

/-- A brake that a Hold begins, or the settle that goes on as one (R58). -/
theorem Ctx.holdBrake_frame (x : Axis) (c : Ctx) :
    (if c.phase = .settle then c else c.beginBrake .brake x.rate x.settings).seg = c.seg
      ∧ ((c.phase = .settle → c.brake.isSome = true) →
        (if c.phase = .settle then c else c.beginBrake .brake x.rate x.settings).brake.isSome = true)
      ∧ (if c.phase = .settle then c else c.beginBrake .brake x.rate x.settings).stepsDone = c.stepsDone
      ∧ ((if c.phase = .settle then c else c.beginBrake .brake x.rate x.settings).delayed.isSome = true → c.delayed.isSome = true) := by
  by_cases h : c.phase = .settle <;> simp [h, Ctx.beginBrake]

theorem State.noFurther_hold (s : State) (a : AxisId) : s.noFurther (s.hold a) := by
  unfold State.hold
  dsimp only
  cases ctx : (s.axis a).ctx with
  | none => exact (s.noFurther_withdraw a).trans (State.noFurther_enterHeld _ a)
  | some c =>
    dsimp only
    split
    · obtain ⟨seg, -, done, delayed⟩ := c.holdBrake_frame (s.axis a)
      refine .trans ((s.changesTo_setAxis a _).noFurther ?_) (State.noFurther_settleBrake _ a)
      exact Axis.noFurther_of_some rfl ctx rfl seg done delayed
    · refine .trans ((s.changesTo_setAxis a _).noFurther ?_) (State.noFurther_enterHeld _ a)
      exact Axis.noFurther_of_some (d := { c with phase := .paused }) rfl ctx rfl rfl rfl id

/-- A segment with a brake, in a state that brakes and is no fault. -/
theorem Axis.wf_braking {x y : Axis} {c d : Ctx} (w : x.wf) (ctx : x.ctx = some c) (steps : c.seg.body.makesSteps = true)
    (fault : x.st ≠ .faultBrake) (set : y.ctx = some d) (seg : d.seg = c.seg) (brake : d.brake.isSome = true)
    (st : y.st = .holding ∨ y.st = .stopping) (queue : y.queue = x.queue) (record : y.faultRecord = x.faultRecord) : y.wf := by
  have cleared : x.faultRecord = none := w.1.clear fault fun h => w.not_empties ctx (.inr (.inr (.inr h)))
  refine ⟨Axis.recordWf_of_clear (record.trans cleared) ?_, Axis.activeWf_of_some set (by rw [queue, seg, w.head ctx]) (fun _ => brake) ?_
    fun _ => ⟨seg ▸ steps, brake⟩⟩
  · rcases st with h | h <;> simp [h]
  · rcases st with h | h <;> simp [h, AxisState.empties]

theorem State.steadies_hold (h : (s.axis a).st = .run ∨ (s.axis a).st = .gate) : s.steadies (s.hold a) := by
  refine State.steadies_of_worksOn (s.keeps_hold a) (s.noFurther_hold a).stepsWf (a := a) fun w => ?_
  have wf : (s.axis a).wf := w.2.1 a
  have clear : (s.axis a).faultRecord = none := wf.1.clear (by rcases h with h | h <;> simp [h]) (by rcases h with h | h <;> simp [h])
  unfold State.hold
  dsimp only
  cases ctx : (s.axis a).ctx with
  | none =>
    have held := State.changesTo_enterHeld (s.withdraw a) a
    rw [State.axis_withdraw] at held
    refine (s.alters_withdraw a).worksOn (held.worksOn (State.outside_withdraw fun g e => (w.2.2 g a e).2) ?_ (by simp) fun u => ?_)
    · exact Axis.wf_of_idle ctx clear (by simp [AxisState.brakes]) (by simp)
    · simp [Axis.unbegun] at u
  | some c =>
    have run : (s.axis a).st ≠ .gate := fun e => wf.not_empties ctx (.inr (.inr (.inl e)))
    have out := w.2.2.outside run
    dsimp only
    split
    · next steps =>
      obtain ⟨seg, brake, -, -⟩ := c.holdBrake_frame (s.axis a)
      have set := s.changesTo_setAxis a { s.axis a with
        st := .holding, ctx := some (if c.phase = .settle then c else c.beginBrake .brake (s.axis a).rate (s.axis a).settings) }
      have braking : Axis.wf { s.axis a with
          st := .holding, ctx := some (if c.phase = .settle then c else c.beginBrake .brake (s.axis a).rate (s.axis a).settings) } :=
        Axis.wf_braking wf ctx steps (by rcases h with h | h <;> simp [h]) rfl seg (brake (wf.2.1 c ctx).2) (.inl rfl) rfl rfl
      obtain ⟨y, reports, gone, change, done, stands⟩ := State.settleBrake_axis (set.axis.symm ▸ braking)
      refine set.alters.worksOn (change.worksOn (set.alters.outside out) done ?_ fun u => ?_) <;> rw [set.axis] at stands
      · rcases stands with rfl | ⟨-, e⟩ | ⟨e, -⟩ | ⟨e, -⟩ <;> simp_all
      · rcases stands with rfl | ⟨-, e⟩ | ⟨e, -⟩ | ⟨e, -⟩ <;> simp_all [Axis.unbegun]
    · have set := s.changesTo_setAxis a { s.axis a with ctx := some { c with phase := .paused } }
      have held := State.changesTo_enterHeld (s.setAxis a { s.axis a with ctx := some { c with phase := .paused } }) a
      rw [set.axis] at held
      have head := wf.head ctx
      refine (set.trans held).worksOn out ⟨Axis.recordWf_of_clear clear (by simp), ?_⟩ (by simp) fun u => by simp [Axis.unbegun] at u
      exact Axis.activeWf_of_some (c := { c with phase := .paused }) rfl head (by simp) (by simp [AxisState.empties])
        (by simp [AxisState.brakes])

/-- An axis in HELD that goes on with its segment (R61, R63). -/
theorem Axis.wf_resumed {x y : Axis} {c d : Ctx} (w : x.wf) (held : x.st = .held) (ctx : x.ctx = some c) (set : y.ctx = some d)
    (seg : d.seg = c.seg) (phase : d.phase ≠ .settle) (st : y.st = .run) (queue : y.queue = x.queue)
    (record : y.faultRecord = x.faultRecord) : y.wf :=
  ⟨Axis.recordWf_of_clear (record.trans (w.1.clear (by simp [held]) (by simp [held]))) (by simp [st]),
    Axis.activeWf_of_some set (by rw [queue, seg, w.head ctx]) (fun e => absurd e phase) (by simp [st, AxisState.empties])
      (by simp [st, AxisState.brakes])⟩

theorem State.steadies_resume (h : (s.axis a).st = .held) : s.steadies (s.resume a) := by
  have resumed : ∀ {c d : Ctx}, (s.axis a).ctx = some c → d.seg = c.seg → d.phase ≠ .settle → d.stepsDone = c.stepsDone →
      d.delayed = c.delayed → s.steadies (s.setAxis a { s.axis a with st := .run, ctx := some d }) := fun {c d} ctx seg phase done delayed =>
    State.steadies_of_changesTo (y := { s.axis a with st := .run, ctx := some d }) s.keeps_setAxis (s.changesTo_setAxis a _) (by simp [h])
      (fun w => Axis.wf_resumed w h ctx rfl seg phase rfl rfl rfl) (by simp) (fun _ u => by simp [Axis.unbegun] at u)
      (Axis.noFurther_of_some rfl ctx rfl seg done fun m => delayed ▸ m)
  unfold State.resume
  dsimp only
  cases ctx : (s.axis a).ctx with
  | none => exact s.steadies_settle _
  | some c =>
    dsimp only
    split
    · have set := resumed (d := Ctx.openWatch { c with phase := .ramp, rampSteps := 0 }) ctx rfl (by simp [Ctx.openWatch]) rfl rfl
      exact set.trans (State.steadies_settle _ _)
    · have set : s.steadies (s.setAxis a { s.axis a with st := .run, ctx := some { c with phase := .timing } }) :=
        resumed (d := { c with phase := .timing }) ctx rfl (by simp) rfl rfl
      split
      · refine set.trans (State.steadies_settleAll (State.keeps_completeAtRest _ a) (State.noFurther_completeAtRest _ a).stepsWf (a := a) fun w => ?_)
        refine (State.changesTo_completeAtRest _ a).worksOn (w.2.2.outside (by simp)) ?_ (by simp) fun _ => ⟨none, .inl ?_⟩
        · exact Axis.wf_runDeparted ((w.2.1 a).1.clear (by simp) (by simp)) (by simp) (by simp) (by simp)
        · exact List.mem_singleton.mpr rfl
      · exact set

/-- Stop Axis is taken in these states only (R64). -/
theorem AxisState.refusesStop_eq_false (st : AxisState) : st.refusesStop = false ↔
    st = .run ∨ st = .gate ∨ st = .holding ∨ st = .held ∨ st = .stopping := by
  cases st <;> simp [AxisState.refusesStop]

theorem Axis.wf.clear_of_stop {x : Axis} (w : x.wf) (h : x.st.refusesStop = false) : x.faultRecord = none := by
  rw [AxisState.refusesStop_eq_false] at h
  refine w.1.clear (fun e => ?_) fun e => ?_ <;> simp [e] at h

/-- READY by Stop Axis, with the axis withdrawn from its barrier first (R64, R65). -/
theorem State.steadies_withdrawReady (h : (s.axis a).st.refusesStop = false) {f : Axis → Axis} (k : ∀ x : Axis, x.sameStore (f x))
    (further : ∀ x : Axis, x.noFurther (f x)) (record : (f (s.axis a)).faultRecord = (s.axis a).faultRecord) :
    s.steadies (((s.withdraw a).modAxis a f).reachReady a) := by
  refine State.steadies_of_worksOn (((s.keeps_withdraw a).trans (State.keeps_modAxis _ a k)).trans (State.keeps_reachReady _ a))
    (((s.noFurther_withdraw a).trans (State.noFurther_modAxis _ a further)).trans (State.noFurther_reachReady _ a)).stepsWf (a := a)
    fun w => ?_
  have set := (s.withdraw a).changesTo_modAxis a f
  have ready := State.changesTo_reachReady ((s.withdraw a).modAxis a f) a
  rw [set.axis, State.axis_withdraw] at ready
  refine (s.alters_withdraw a).worksOn ((set.trans ready).worksOn (State.outside_withdraw fun g e => (w.2.2 g a e).2) ?_ ?_ fun u => ?_)
  · exact Axis.wf_readied (record.trans (Axis.wf.clear_of_stop (w.2.1 a) h))
  · simp [Axis.readied]
  · simp [Axis.unbegun, Axis.readied] at u

theorem State.steadies_stopHalt (h : (s.axis a).st.refusesStop = false) (flush : Bool) : s.steadies (s.stopHalt a flush) := by
  unfold State.stopHalt
  exact State.steadies_withdrawReady h (fun _ => ⟨rfl, rfl, rfl, rfl, rfl⟩) (fun _ => Axis.noFurther_of_same rfl rfl) rfl

/-- The brake of a Stop: one that runs goes on, otherwise one begins (R64). -/
theorem Ctx.stopBrake_frame (x : Axis) (c : Ctx) :
    (if c.brake.isSome then c else c.beginBrake .brake x.rate x.settings).closeWatch.seg = c.seg
      ∧ (if c.brake.isSome then c else c.beginBrake .brake x.rate x.settings).closeWatch.brake.isSome = true
      ∧ (if c.brake.isSome then c else c.beginBrake .brake x.rate x.settings).closeWatch.stepsDone = c.stepsDone
      ∧ ((if c.brake.isSome then c else c.beginBrake .brake x.rate x.settings).closeWatch.delayed.isSome = true →
        c.delayed.isSome = true) := by
  cases h : c.brake <;> simp [Ctx.beginBrake, Ctx.closeWatch, h]

theorem State.steadies_stopBrake (h : (s.axis a).st.refusesStop = false) (flush : Bool) : s.steadies (s.stopBrake a flush) := by
  unfold State.stopBrake
  dsimp only
  split
  · exact .refl s
  · split
    · next stopping _ c chosen =>
      have steps : (s.axis a).stepping = true := by
        by_contra n
        simp [n] at chosen
      have ctx : (s.axis a).ctx = some c := by simpa [steps] using chosen
      obtain ⟨st, c', ctx', moves⟩ := (s.axis a).stepping_iff.mp steps
      rw [ctx] at ctx'
      cases ctx'
      obtain ⟨seg, brake, done, delayed⟩ := c.stopBrake_frame (s.axis a)
      have unfaulted : (s.axis a).st ≠ .faultBrake := fun e => by simp [e, AxisState.refusesStop] at h
      refine .trans (State.steadies_of_changesTo (y := { s.axis a with
          st := .stopping
          ctx := some (if c.brake.isSome then c else c.beginBrake .brake (s.axis a).rate (s.axis a).settings).closeWatch
          owedFlush := flush }) s.keeps_setAxis (s.changesTo_setAxis a _) ?_ (fun w => ?_) (by simp) (fun _ u => ?_)
          (Axis.noFurther_of_some rfl ctx rfl seg done delayed))
        (State.steadies_settleBrake _ a (by simp) (by simp))
      · rcases st with e | e | e | e <;> simp [e]
      · exact Axis.wf_braking w ctx moves unfaulted rfl seg brake (.inr rfl) rfl rfl
      · simp [Axis.unbegun] at u
    · exact State.steadies_withdrawReady h (fun _ => ⟨rfl, rfl, rfl, rfl, rfl⟩) (fun _ => Axis.noFurther_of_same rfl rfl) rfl

end Steady

end Sys2Proof.Machine

/-!
PROOF. Every request keeps the axes in agreement, at rest and within their segments (R8, R26, R28, R102, R121).
-/

namespace Sys2Proof.Machine

/-! ## Changes that no axis sees -/

theorem State.steadies_modLink (s : State) (f : Link → Link) : s.steadies (s.modLink f) :=
  State.steadies_of_eq (fun _ => rfl) fun _ => rfl

theorem State.steadies_setReports (s : State) (r : ReportUnit) : s.steadies (s.setReports r) :=
  State.steadies_of_eq (fun _ => rfl) fun _ => rfl

theorem State.steadies_report (s : State) (b : ReportBody) : s.steadies (s.report b) := s.steadies_setReports _

theorem State.steadies_modCounters (s : State) (f : LinkCounters → LinkCounters) : s.steadies (s.modCounters f) :=
  s.steadies_modLink _

theorem State.steadies_restartSilence (s : State) : s.steadies s.restartSilence := by
  unfold State.restartSilence
  split
  · exact .refl s
  · exact s.steadies_modLink _

theorem State.steadies_takeFrame (s : State) (rest : List Frame) : s.steadies (s.takeFrame rest) :=
  (s.steadies_modLink _).trans (State.steadies_restartSilence _)

theorem State.steadies_placeReply (s : State) (f : Frame) (p : List Byte) : s.steadies (s.placeReply f p) := s.steadies_modLink _

/-! ## What a handler must show -/

def Handler.steadies (h : Handler) : Prop := ∀ (p : List Byte) (s : State), s.steadies (h p s).1

theorem steadies_checkLength {n : Nat} {h : Handler} (k : Handler.steadies h) : Handler.steadies (checkLength n h) := fun p s => by
  unfold checkLength
  split
  · exact k p s
  · exact .refl s

theorem steadies_onAxis {h : AxisId → Handler} (k : ∀ a, Handler.steadies (h a)) : Handler.steadies (onAxis h) := fun p s => by
  unfold onAxis
  cases axisOf (byteAt p 0) with
  | none => exact .refl s
  | some a => exact k a p s

theorem steadies_onGroup {h : GroupId → Handler} (k : ∀ g, Handler.steadies (h g)) : Handler.steadies (onGroup h) := fun p s => by
  unfold onGroup
  cases groupOf (byteAt p 0) with
  | none => exact .refl s
  | some g => exact k g p s

theorem State.steadies_takeRequest (s : State) (code : Byte) {h : Handler} (k : Handler.steadies h) :
    s.steadies (s.takeRequest code h) := by
  obtain e | ⟨f, rest, -, -, -, -, e⟩ := s.takeRequest_cases code h
  · exact e.symm ▸ .refl s
  · rw [e]
    exact ((s.steadies_takeSilences.trans (State.steadies_takeFrame _ rest)).trans (k _ _)).trans (State.steadies_placeReply _ f _)

theorem State.steadies_takeUnknown (s : State) : s.steadies s.takeUnknown := by
  unfold State.takeUnknown
  split
  · exact .refl s
  · split
    · exact (s.steadies_takeSilences.trans (State.steadies_takeFrame _ _)).trans (State.steadies_placeReply _ _ _)
    · exact .refl s

theorem State.steadies_takeDuplicate (s : State) : s.steadies s.takeDuplicate := by
  unfold State.takeDuplicate
  split
  · exact .refl s
  · split
    · exact ((s.steadies_takeSilences.trans (State.steadies_takeFrame _ _)).trans (State.steadies_modLink _ _)).trans
        (State.steadies_modCounters _ _)
    · exact .refl s

/-! ## The Segment Store -/

section SegmentStore
variable {s : State} {a : AxisId}

/-- One axis in its mode, its departed segments notified. -/
theorem State.steadies_of_changesTo_sameMode {t : State} {y : Axis} {reports : List ReportBody} {gone : List Segment} (k : s.keeps t)
    (h : s.changesTo a y reports gone t) (m : (s.axis a).sameMode y) : s.steadies t :=
  State.steadies_of_sameMode k.refs (fun b => by
    by_cases e : b = a
    · rw [e, h.axis]
      exact m
    · rw [h.others b e]
      exact .refl _) fun g => by rw [h.group]; exact ⟨rfl, rfl⟩

/-- The protected set of R10 stays. -/
theorem Axis.sameMode_take {x : Axis} {keep : Nat} (h : x.queue ≠ [] → x.ctx.isSome = true ∨ x.st = .gate → keep ≠ 0) :
    x.sameMode { x with queue := x.queue.take keep } := by
  have head : x.ctx.isSome = true ∨ x.st = .gate → (x.queue.take keep).head? = x.queue.head? := fun active => by
    cases q : x.queue with
    | nil => simp
    | cons seg rest =>
      rw [List.head?_take, if_neg (h (by simp [q]) active)]
  refine ⟨rfl, fun ⟨record, active⟩ => ⟨record, fun c ctx => ?_, active.2⟩, fun g gate e => ?_, fun _ u => ?_,
    (Axis.noFurther_of_same rfl rfl).stepsWf⟩
  · obtain ⟨first, settle⟩ := active.1 c ctx
    exact ⟨(head (.inl (by simp [show x.ctx = some c from ctx]))).trans first, settle⟩
  · simpa only [Axis.headGate, head (.inr gate)] using e
  · obtain ⟨run, idle, left⟩ := u
    exact ⟨run, idle, fun e => left (by simp [e])⟩

theorem State.steadies_dropTail {keep : Nat}
    (h : (s.axis a).queue ≠ [] → (s.axis a).ctx.isSome = true ∨ (s.axis a).st = .gate → keep ≠ 0) : s.steadies (s.dropTail a keep) :=
  State.steadies_of_changesTo_sameMode (s.keeps_dropTail a keep) (State.changesTo_dropTail s a keep) (Axis.sameMode_take h)

theorem steadies_trimQueue : Handler.steadies trimQueue := steadies_checkLength <| steadies_onAxis fun a p s => by
  dsimp only
  split
  · exact .refl s
  · refine State.steadies_dropTail fun filled active => ?_
    have depth : 1 ≤ (s.axis a).depth := List.length_pos_iff.mpr filled
    have guarded : 1 ≤ (s.axis a).protectedCount := by
      unfold Axis.protectedCount
      split
      · decide
      · next idle => simp [active.resolve_left idle]
    omega

theorem State.steadies_flush (s : State) (a : AxisId) : s.steadies (s.flush a) := by
  unfold State.flush
  dsimp only
  split
  · exact State.steadies_dropTail fun _ _ => by decide
  · next idle =>
    split
    · next gate =>
      refine State.steadies_of_worksOn (((s.keeps_withdraw a).trans (State.keeps_dropTail _ a 0)).trans (State.keeps_starve _ a))
        ?_ (a := a) fun w => ?_
      · refine (((s.noFurther_withdraw a).trans (State.noFurther_dropTail _ a 0)).trans ?_).stepsWf
        unfold State.starve
        exact State.noFurther_modAxis _ a
      · have emptied := State.changesTo_dropTail (s.withdraw a) a 0
        have starved := State.changesTo_modAxis ((s.withdraw a).dropTail a 0) a fun x => { x with st := .run, rate := 0 }
        rw [emptied.axis, State.axis_withdraw] at starved
        have clear : (s.axis a).faultRecord = none := (w.2.1 a).1.clear (by simp [gate]) (by simp [gate])
        refine (s.alters_withdraw a).worksOn ((emptied.trans starved).worksOn (State.outside_withdraw fun g e => (w.2.2 g a e).2) ?_
          (by simp) fun u => by simp [Axis.unbegun] at u)
        exact Axis.wf_runDeparted clear rfl rfl (by simpa using idle)
    · next away => exact State.steadies_dropTail fun _ active => absurd active (not_or.mpr ⟨idle, away⟩)

theorem steadies_flushQueue : Handler.steadies flushQueue := steadies_checkLength <| steadies_onAxis fun a _ s => s.steadies_flush a

theorem steadies_configureQueue : Handler.steadies configureQueue := steadies_checkLength <| steadies_onAxis fun a p s => by
  dsimp only
  split
  · exact .refl s
  · next quota =>
    split
    · exact .refl s
    · split
      · exact .refl s
      · simp only [Bool.or_eq_true, decide_eq_true_eq, not_or, Nat.not_lt] at quota
        exact State.steadies_setAxis (State.keeps_setQuota (by omega) (by omega) (by omega) (by omega)) ⟨rfl, id, fun _ _ => id, fun _ => id, id⟩

theorem head_append {q segs : List Segment} {seg : Segment} (h : q.head? = some seg) : (q ++ segs).head? = some seg := by
  rw [List.head?_append, h, Option.some_or]

/-- An axis with more segments behind its queue. -/
theorem Axis.wf_append {x : Axis} (segs : List Segment) (w : x.wf) : Axis.wf { x with queue := x.queue ++ segs } :=
  ⟨w.1, fun c ctx => ⟨head_append (w.2.1 c ctx).1, (w.2.1 c ctx).2⟩, w.2.2⟩

theorem State.alters_enqueue (s : State) (a : AxisId) (segs : List Segment) : s.alters a (s.enqueue a segs) := by
  obtain ⟨touch, -, -, groups, -⟩ := s.enqueue_spec segs a
  exact ⟨touch.2, fun g => by rw [groups g], fun g _ _ => by rw [groups g], fun g => by rw [groups g]; exact id⟩

/-- Records admitted to an axis that does not starve. -/
theorem Axis.sameMode_append {x : Axis} (segs : List Segment) (h : x.starved = false) :
    x.sameMode { x with queue := x.queue ++ segs } := by
  refine ⟨rfl, Axis.wf_append segs, fun g _ e => ?_, fun _ u => ⟨u.1, u.2.1, fun empty => ?_⟩, (Axis.noFurther_of_same rfl rfl).stepsWf⟩
  · obtain ⟨seg, head, gate⟩ := Option.bind_eq_some_iff.mp e
    exact Option.bind_eq_some_iff.mpr ⟨seg, head_append head, gate⟩
  · obtain ⟨run, idle, -⟩ := u
    have run' : x.st = .run := run
    have idle' : x.ctx = none := idle
    simp [Axis.starved, run', idle', empty] at h

theorem State.steadies_enqueue {segs : List Segment} (k : s.keeps (s.enqueue a segs)) (h : (s.axis a).starved = false) :
    s.steadies (s.enqueue a segs) := by
  obtain ⟨touch, axis, -, groups, -⟩ := s.enqueue_spec segs a
  refine State.steadies_of_sameMode k.refs (fun b => ?_) fun g => by rw [groups g]; exact ⟨rfl, rfl⟩
  by_cases e : b = a
  · rw [e, axis]
    exact Axis.sameMode_append segs h
  · rw [touch.2 b e]
    exact .refl _

/-- A starved axis begins the first record that is admitted (R13, R40). -/
theorem State.steadies_loadStarved {segs : List Segment} (k : s.keeps (s.enqueue a segs)) (h : (s.axis a).starved = true) :
    s.steadies ((s.enqueue a segs).settle [.beginHead a none]) := by
  obtain ⟨-, axis, -, -, -⟩ := s.enqueue_spec segs a
  simp only [Axis.starved, Bool.and_eq_true, decide_eq_true_eq] at h
  have same : s.noFurther (s.enqueue a segs) := fun b => by
    by_cases e : b = a
    · rw [e, axis]
      exact Axis.noFurther_of_same rfl rfl
    · rw [(s.alters_enqueue a segs).others b e]
      exact .refl _
  refine State.steadies_settleAll (r := (s.enqueue a segs, [.beginHead a none])) k same.stepsWf (a := a) fun w => ?_
  have out : s.outside a := w.2.2.outside (by simp [h.1.1])
  refine ⟨s.alters_enqueue a segs, (s.alters_enqueue a segs).outside out, ?_, ?_, fun _ => ⟨none, .inl (List.mem_singleton.mpr rfl)⟩⟩ <;>
    rw [axis]
  · exact Axis.wf_append segs (w.2.1 a)
  · simp [h.1.1]

theorem steadies_loadSegments : Handler.steadies loadSegments := fun p s => by
  unfold loadSegments
  split
  · exact .refl s
  · refine steadies_onAxis (fun a p s => ?_) p s
    dsimp only
    split
    · exact .refl s
    · split
      · exact .refl s
      · obtain e | ⟨segs, read, -, quota, pool, e⟩ := loadRecords_cases a (byteAt p 1).toNat p s
        · exact e.symm ▸ .refl s
        · rw [e]
          have k := State.keeps_enqueue quota pool (readRecords_gate read).2
          cases starved : (s.axis a).starved with
          | true => exact State.steadies_loadStarved k starved
          | false => exact State.steadies_enqueue k starved

/-! ## The Axis Controllers -/

theorem steadies_enableAxis : Handler.steadies enableAxis := steadies_checkLength <| steadies_onAxis fun a p s => by
  split
  · exact .refl s
  · next off =>
    split
    · exact .refl s
    · exact State.steadies_enable (not_not.mp off)

theorem steadies_disableAxis : Handler.steadies disableAxis := steadies_checkLength <| steadies_onAxis fun a p s => by
  split
  · exact .refl s
  · next ready => exact State.steadies_disable (not_not.mp ready)

theorem steadies_startAxis : Handler.steadies startAxis := steadies_checkLength <| steadies_onAxis fun a p s => by
  split
  · exact .refl s
  · exact s.steadies_settle _

theorem steadies_holdAxis : Handler.steadies holdAxis := steadies_checkLength <| steadies_onAxis fun a p s => by
  split
  · next st => exact State.steadies_hold (by simpa using st)
  · exact .refl s

theorem steadies_resumeAxis : Handler.steadies resumeAxis := steadies_checkLength <| steadies_onAxis fun a p s => by
  split
  · exact .refl s
  · next held => exact State.steadies_resume (not_not.mp held)

theorem steadies_stopAxis : Handler.steadies stopAxis := steadies_checkLength <| steadies_onAxis fun a p s => by
  dsimp only
  cases twoValued (byteAt p 1) with
  | none => exact .refl s
  | some halt =>
    dsimp only
    split
    · exact .refl s
    · next taken =>
      rw [Bool.not_eq_true] at taken
      unfold replyState
      dsimp only
      split
      · exact State.steadies_stopHalt taken _
      · exact State.steadies_stopBrake taken _

theorem steadies_setPosition : Handler.steadies setPosition := steadies_checkLength <| steadies_onAxis fun a p s => by
  dsimp only
  split
  · refine .trans (State.steadies_setAxis ?_ ?_) (State.steadies_evaluateFollow _ a)
    · exact s.keeps_setAxis
    · exact ⟨rfl, id, fun _ _ => id, fun _ => id, id⟩
  · exact .refl s

/-! ## Groups, protection and settings -/

/-- A group that no queued segment is gated on has nobody waiting (R99, R102). -/
theorem State.arrived_of_free {g : GroupId} (w : s.fits) (free : (s.group g).refCount = 0) : (s.group g).arrived = 0#4 := by
  obtain ⟨refs, -, sets⟩ := w
  refine set_ext fun b => (Bool.eq_false_iff.mpr fun e => ?_).trans (inSet_zero b).symm
  obtain ⟨seg, head, gate⟩ := Option.bind_eq_some_iff.mp (sets g b e).2.2
  have mine : 1 ≤ gatedOn g (s.axis b).queue := by
    simpa only [gatedOn, List.length_pos_iff_exists_mem, List.mem_filter, Nat.succ_le_iff]
      using ⟨seg, List.mem_of_mem_head? head, by simp [gate]⟩
  have sum := (refs g).1
  rw [free] at sum
  fin_cases b <;> simp at mine <;> omega

/-- A free group entry may take any members. -/
theorem State.steadies_setMembers {g : GroupId} {members : BitVec 4} {timeout : Nat} {report : Bool}
    (free : (s.group g).refCount = 0)
    (k : s.keeps (s.modGroup g fun x => { x with members := members, timeout := timeout, releaseReport := report })) :
    s.steadies (s.modGroup g fun x => { x with members := members, timeout := timeout, releaseReport := report }) where
  fits w := by
    refine ⟨k.refs w.1, w.2.1, fun h a e => ?_⟩
    by_cases own : h = g
    · subst own
      rw [State.group_modGroup_self] at e
      have nobody : inSet (s.group h).arrived a = true := e
      rw [State.arrived_of_free w free] at nobody
      simp at nobody
    · rw [State.group_modGroup_ne s _ own] at e ⊢
      exact w.2.2 h a e
  rest w rest := by
    obtain ⟨unbegun, gates, sets⟩ := rest
    refine ⟨unbegun, fun a st => ?_, fun h => ?_⟩
    · obtain ⟨h, head, arrived⟩ := gates a st
      refine ⟨h, head, ?_⟩
      rw [State.group_modGroup]
      split
      · next own => exact own ▸ arrived
      · exact arrived
    · rw [State.group_modGroup]
      split
      · have nobody := State.arrived_of_free w free
        simp only [nobody]
        exact fun nonempty => nonempty.symm
      · exact sets h
  steps := id

theorem steadies_defineGroup : Handler.steadies defineGroup := steadies_checkLength <| steadies_onGroup fun g p s => by
  dsimp only
  split
  · exact .refl s
  · next size =>
    split
    · exact .refl s
    · split
      · exact .refl s
      · next free => exact State.steadies_setMembers (not_not.mp free) (State.keeps_setMembers size (by omega) (not_not.mp free))

theorem steadies_readGroupStatus : Handler.steadies readGroupStatus := steadies_checkLength <| steadies_onGroup fun _ _ s => .refl s

theorem steadies_configureProtection : Handler.steadies configureProtection := steadies_checkLength <| steadies_onAxis fun a p s => by
  split
  · exact .refl s
  · next protection read =>
    exact State.steadies_setAxis (State.keeps_setSettings (f := fun x => { x with protection := protection }) (fun _ => rfl)
      (fun _ => rfl) (fun _ => rfl) fun w => ⟨w.1, readProtection_followLimit read⟩) ⟨rfl, id, fun _ _ => id, fun _ => id, id⟩

theorem State.steadies_cleared (h : (s.axis a).st = .fault) :
    s.steadies (s.modAxis a fun y => { y with st := .ready, ena := true, faultRecord := none }) :=
  State.steadies_of_changesTo (s.keeps_modAxis a)
    (s.changesTo_modAxis a fun y => { y with st := .ready, ena := true, faultRecord := none }) (by simp [h])
    (fun w => Axis.wf_of_idle (w.2.2.1 (.inr (.inr (.inr h)))) rfl (by simp [AxisState.brakes]) (by simp)) (by simp)
    (fun _ u => by simp [Axis.unbegun] at u) (Axis.noFurther_of_same rfl rfl)

/-- The queue of an axis that has no active segment and waits at no barrier. -/
theorem State.steadies_empty (idle : (s.axis a).ctx = none) (away : (s.axis a).st ≠ .gate) : s.steadies (s.dropTail a 0) :=
  State.steadies_dropTail fun _ active => by simp [idle, away] at active

theorem steadies_clearFault : Handler.steadies clearFault := steadies_checkLength <| steadies_onAxis fun a p s => by
  dsimp only
  split
  · exact .refl s
  · next fault =>
    split
    · exact .refl s
    · split
      · exact .refl s
      · have cleared := State.steadies_cleared (not_not.mp fault)
        split
        · have idle : s.fits → (s.axis a).ctx = none := fun w => (w.2.1 a).2.2.1 (.inr (.inr (.inr (not_not.mp fault))))
          have emptied : s.fits → State.steadies _ ((s.modAxis a fun y => { y with st := .ready, ena := true, faultRecord := none }).dropTail a 0) :=
            fun w => cleared.trans (State.steadies_empty (by simpa using idle w) (by simp))
          exact ⟨fun w => (emptied w).fits w, fun w => (emptied w).rest w,
            (State.noFurther_dropTail _ a 0).stepsWf ∘ cleared.steps⟩
        · exact cleared

theorem Axis.stepsWf_configure {x : Axis} (clock : Nat) (set : AxisSettings) (w : x.stepsWf) : (x.configure clock set).stepsWf := by
  refine ⟨w.1, ?_⟩
  unfold Axis.configure Axis.outputAfter
  dsimp only
  split
  · exact w.2
  · simp [StepOutput.turn]

theorem steadies_configureAxis : Handler.steadies configureAxis := steadies_checkLength <| steadies_onAxis fun a p s => by
  split
  · exact .refl s
  · next set read =>
    split
    · exact .refl s
    · exact State.steadies_setAxis (State.keeps_setSettings (fun _ => rfl) (fun _ => rfl) (fun _ => rfl)
        fun w => ⟨readAxisSettings_wf read, w.2⟩) ⟨rfl, id, fun _ _ => id, fun _ => id, Axis.stepsWf_configure _ _⟩

/-! ## Reports and link -/

theorem steadies_configureReports : Handler.steadies configureReports := steadies_checkLength fun p s => by
  dsimp only
  split
  · exact .refl s
  · split
    · exact .refl s
    · exact s.steadies_setReports _

theorem steadies_acknowledgeReports : Handler.steadies acknowledgeReports := steadies_checkLength fun p s => by
  dsimp only
  split
  · exact .refl s
  · exact s.steadies_setReports _

theorem steadies_replayReports : Handler.steadies replayReports := steadies_checkLength fun _ s => s.steadies_setReports _

theorem steadies_configureLink : Handler.steadies configureLink := steadies_checkLength fun p s => by
  dsimp only
  split
  · dsimp only
    exact s.steadies_modLink _
  · split
    · exact .refl s
    · exact (s.steadies_modLink _).trans (State.steadies_restartSilence _)

theorem steadies_readLinkStatus : Handler.steadies readLinkStatus := steadies_checkLength fun p s => by
  cases twoValued (byteAt p 0) with
  | none => exact .refl s
  | some clear =>
    cases clear
    · exact .refl s
    · exact s.steadies_modCounters fun _ => .reset

theorem steadies_resetDevice : Handler.steadies resetDevice := steadies_checkLength fun _ s => by
  dsimp only
  exact s.steadies_modLink _

theorem steadies_noOperation : Handler.steadies noOperation := fun p s => by
  unfold noOperation
  split <;> exact .refl s

theorem steadies_readAxisStatus : Handler.steadies readAxisStatus := steadies_checkLength <| steadies_onAxis fun _ _ s => .refl s
theorem steadies_readDeviceInfo : Handler.steadies readDeviceInfo := steadies_checkLength fun _ s => .refl s

end SegmentStore

end Sys2Proof.Machine

/-!
PROOF. The events keep the axes in agreement, at rest and within their segments, and so does every step (R8, R26, R28, R40, R102, R103,
R121, R171).
-/

namespace Sys2Proof.Machine

/-! ## Time and inputs -/

theorem Axis.sameMode_spend (us : Nat) (x : Axis) : x.sameMode (x.spend us) := by
  cases ctx : x.ctx with
  | none =>
    have e : x.spend us = x := by simp [Axis.spend, ctx]
    exact e.symm ▸ .refl x
  | some c =>
    by_cases timing : c.phase = .timing
    · have e : x.spend us = { x with ctx := some { c with dwellLeft := c.dwellLeft - us } } := by simp [Axis.spend, ctx, timing]
      rw [e]
      exact Axis.sameMode_setCtx ctx rfl rfl rfl rfl rfl rfl rfl (Axis.noFurther_of_some rfl ctx rfl rfl rfl id)
    · have e : x.spend us = x := by simp [Axis.spend, ctx, timing]
      exact e.symm ▸ .refl x

theorem State.steadies_passTo (s : State) (q : Nat) : s.steadies (s.passTo q) :=
  State.steadies_of_sameMode (s.keeps_passTo q).refs (fun a => by
    rw [State.axis_passTo]
    split
    · exact Axis.sameMode_spend _ _
    · exact .refl _) fun g => by rw [State.group_passTo]; exact ⟨rfl, rfl⟩

theorem State.steadies_passToMicros (s : State) (t : Nat) : s.steadies (s.passToMicros t) := s.steadies_passTo _

theorem State.st_passTo (s : State) (q : Nat) (a : AxisId) : ((s.passTo q).axis a).st = (s.axis a).st := by
  rw [State.axis_passTo]
  split
  · exact ((s.axis a).spend_frame _).1
  · rfl

theorem State.steadies_modAxes (s : State) {f : AxisId → Axis → Axis} 
    (k : ∀ a (x : Axis), x.sameStore (f a x) := by exact fun _ _ => ⟨rfl, rfl, rfl, rfl, rfl⟩)
    (h : ∀ a (x : Axis), x.sameMode (f a x) := by exact fun _ _ => ⟨rfl, id, fun _ _ => id, fun _ => id, id⟩) :
    s.steadies (s.modAxes f) :=
  State.steadies_of_sameMode (s.keeps_modAxes k).refs (fun a => by rw [State.axis_modAxes]; exact h a _) fun _ => ⟨rfl, rfl⟩

theorem State.steadies_deliverInput (s : State) (a : AxisId) (i : AxisInput) : s.steadies (s.deliverInput a i) := by
  unfold State.deliverInput
  exact s.steadies_modAxis a

theorem State.st_deliverInput (s : State) (a : AxisId) (i : AxisInput) : ((s.deliverInput a i).axis a).st = (s.axis a).st := by
  simp [State.deliverInput]

theorem State.steadies_deliverChannel (s : State) (a : AxisId) (i : AxisInput) (q : Nat) : s.steadies (s.deliverChannel a i q) := by
  unfold State.deliverChannel
  split
  · exact s.steadies_deliverInput a i
  · exact .refl s

theorem State.steadies_setTrip (s : State) (l : InputLine) : s.steadies { s with trip := l } :=
  State.steadies_of_eq (fun _ => rfl) fun _ => rfl

theorem State.steadies_setStraps (s : State) (x : Straps) : s.steadies { s with straps := x } :=
  State.steadies_of_eq (fun _ => rfl) fun _ => rfl

theorem State.steadies_setResetn (s : State) (low : Bool) : s.steadies { s with resetnLow := low } :=
  State.steadies_of_eq (fun _ => rfl) fun _ => rfl

/-! ## Seek triggers and the encoder -/

section SeekTriggers
variable {s : State} {a : AxisId}

/-- A found seek settles with a brake (R72, R73). -/
theorem Axis.foundCtx_frame (x : Axis) (c : Ctx) :
    (x.foundCtx c).seg = c.seg ∧ (x.foundCtx c).stepsDone = c.stepsDone
      ∧ ((x.foundCtx c).delayed.isSome = true → c.delayed.isSome = true)
      ∧ (x.st = .run ∨ c.brake.isSome = true → (x.foundCtx c).brake.isSome = true) := by
  by_cases run : x.st = .run <;> simp [Axis.foundCtx, run, Ctx.beginBrake]

theorem Axis.wf_found {x : Axis} {c : Ctx} (ctx : x.ctx = some c) (st : x.st = .run ∨ x.st = .holding) (w : x.wf) :
    Axis.wf { x with ctx := some (x.foundCtx c) } := by
  obtain ⟨seg, -, -, brake⟩ := x.foundCtx_frame c
  have braked : (x.foundCtx c).brake.isSome = true := by
    rcases st with run | holding
    · exact brake (.inl run)
    · obtain ⟨d, ctx', -, braked⟩ := w.2.2.2 (.inl holding)
      rw [ctx] at ctx'
      cases ctx'
      exact brake (.inr braked)
  exact ⟨w.1, w.2.setCtx ctx rfl rfl rfl seg (fun _ => .inr braked) fun _ => braked⟩

theorem State.steadies_triggerFound (st : (s.axis a).st = .run ∨ (s.axis a).st = .holding) : s.steadies (s.triggerFound a) := by
  unfold State.triggerFound
  dsimp only
  cases ctx : (s.axis a).ctx with
  | none => exact .refl s
  | some c =>
    dsimp only
    obtain ⟨seg, done, delayed, -⟩ := (s.axis a).foundCtx_frame c
    have further : (s.axis a).noFurther { s.axis a with ctx := some ((s.axis a).foundCtx c) } :=
      Axis.noFurther_of_some rfl ctx rfl seg done delayed
    have away : (s.axis a).st ≠ .gate := by rcases st with h | h <;> simp [h]
    have found : s.steadies (s.modAxis a fun y => { y with ctx := some ((s.axis a).foundCtx c) }) :=
      State.steadies_of_changesTo (s.keeps_modAxis a)
        (s.changesTo_modAxis a fun y => { y with ctx := some ((s.axis a).foundCtx c) }) away (Axis.wf_found ctx st) away
        (fun _ u => by simp [Axis.unbegun] at u) further
    refine (found.trans (State.steadies_report _ _)).trans (State.steadies_settleAll (State.keeps_stepEffects _ a)
      (State.noFurther_stepEffects _ a).stepsWf (a := a) fun w => State.worksOn_stepEffects w.2 ?_ fun u => ?_)
    · simpa using away
    · simp [Axis.unbegun] at u

/-- The edge on its way to a seek changes nothing that the invariants read. -/
theorem State.steadies_deliverEnci (s : State) (a : AxisId) : s.steadies (s.deliverEnci a) := by
  unfold State.deliverEnci
  refine (s.steadies_deliverInput a .enci).trans (State.steadies_setAxis ?_ ?_)
  · exact State.keeps_setAxis _
  have same : ((s.deliverInput a .enci).axis a).ctx = (s.axis a).ctx := by simp [State.deliverInput]
  split
  · cases ctx : (s.axis a).ctx with
    | none => exact ⟨rfl, fun w => ⟨w.1, by simpa [Axis.activeWf, same, ctx] using w.2⟩, fun _ _ => id,
        fun _ u => by simpa [Axis.unbegun, same, ctx] using u,
        fun w => ⟨by simp [same, ctx], w.2⟩⟩
    | some c =>
      have active := same.trans ctx
      refine Axis.sameMode_setCtx active (d := { c with edgePending := true }) ?_ rfl rfl rfl rfl rfl rfl ?_
      · simp [same, ctx]
      · exact Axis.noFurther_of_some (d := { c with edgePending := true }) rfl active (by simp [same, ctx]) rfl rfl id
  · exact ⟨rfl, id, fun _ _ => id, fun _ => id, id⟩

theorem State.st_deliverEnci (s : State) (a : AxisId) : ((s.deliverEnci a).axis a).st = (s.axis a).st := by
  simp [State.deliverEnci, State.deliverInput]

theorem State.steadies_takeIndexEdge (s : State) (a : AxisId) : s.steadies (s.takeIndexEdge a) := by
  unfold State.takeIndexEdge
  split
  · dsimp only
    split
    · exact (s.steadies_modAxis a).trans (State.steadies_report _ _)
    · exact s.steadies_modAxis a
  · exact .refl s

theorem State.steadies_takePair (s : State) (a : AxisId) : s.steadies (s.takePair a) := by
  unfold State.takePair
  dsimp only
  split
  · exact .refl s
  · split
    · exact .refl s
    · split
      · exact (s.steadies_modAxis a).trans (State.steadies_evaluateFollow _ a)
      · split
        · exact (s.steadies_modAxis a).trans (State.steadies_raiseCause _ a _)
        · exact s.steadies_modAxis a

/-- An axis with a watch open to this change is in RUN or HOLDING (R70). -/
theorem Axis.st_of_watches {x : Axis} {source : TrigSource} {toActive : Bool} (h : x.watches source toActive = true) :
    x.st = .run ∨ x.st = .holding := by
  unfold Axis.watches at h
  rw [Bool.and_eq_true] at h
  simpa using h.1

theorem Axis.st_of_triggerPending {x : Axis} (h : x.triggerPending = true) : x.st = .run ∨ x.st = .holding := by
  unfold Axis.triggerPending at h
  rw [Bool.and_eq_true] at h
  simpa using h.1

/-! ## A broken group (R108) -/

/-- An axis of a broken group. -/
def Axis.heldBroken (x : Axis) : Axis := { x with st := .held, rate := 0 }

theorem Axis.wf_heldBroken {x : Axis} (w : x.wf) (h : x.st = .gate) : x.heldBroken.wf :=
  ⟨Axis.recordWf_of_clear (w.1.clear (by simp [h]) (by simp [h])) (by simp [Axis.heldBroken]),
    Axis.activeWf_of_none (w.2.2.1 (.inr (.inr (.inl h)))) (by simp [Axis.heldBroken, AxisState.brakes])⟩

theorem State.axis_breakGroup (s : State) (g : GroupId) (a : AxisId) :
    (s.breakGroup g).axis a = if inSet (s.group g).arrived a then (s.axis a).heldBroken else s.axis a := by
  simp [State.breakGroup, Axis.heldBroken]

theorem State.group_breakGroup (s : State) (g h : GroupId) :
    (s.breakGroup g).group h
      = if h = g then { s.group g with arrived := 0, timer := none, round := (s.group g).round + 1 } else s.group h := by
  simp [State.breakGroup, State.group_setGroup]

theorem State.members_breakGroup (s : State) (g h : GroupId) : ((s.breakGroup g).group h).members = (s.group h).members := by
  rw [State.group_breakGroup]
  split
  · next e => rw [e]
  · rfl

/-- The arrival sets after a break: one is empty, the others are as they were. -/
theorem State.arrived_breakGroup (s : State) (g h : GroupId) :
    ((s.breakGroup g).group h).arrived = if h = g then 0 else (s.group h).arrived := by
  rw [State.group_breakGroup]
  split <;> rfl

/-- Who waits elsewhere is not touched by a break. -/
theorem State.arrivalWf.stays {g h : GroupId} (w : s.arrivalWf) (n : h ≠ g) (e : inSet (s.group h).arrived a = true) :
    inSet (s.group g).arrived a = false := Bool.eq_false_iff.mpr fun k => by
  obtain ⟨-, -, here⟩ := w h a e
  obtain ⟨-, -, there⟩ := w g a k
  rw [here, Option.some.injEq] at there
  exact n there

theorem State.steadies_breakGroup (s : State) (g : GroupId) : s.steadies (s.breakGroup g) where
  fits w := by
    refine ⟨(s.keeps_breakGroup g).refs w.1, fun a => ?_, fun h a e => ?_⟩
    · rw [State.axis_breakGroup]
      split
      · next waits => exact Axis.wf_heldBroken (w.2.1 a) (w.2.2 g a waits).2.1
      · exact w.2.1 a
    · rw [State.arrived_breakGroup] at e
      split at e
      · simp at e
      · next n =>
        rw [State.members_breakGroup, State.axis_breakGroup, w.2.2.stays n e]
        exact w.2.2 h a e
  rest w rest := by
    obtain ⟨unbegun, gates, sets⟩ := rest
    refine ⟨fun a st idle => ?_, fun a st => ?_, fun h => ?_⟩
    · rw [State.axis_breakGroup] at st idle ⊢
      split at st
      · simp [Axis.heldBroken] at st
      · next stays =>
        rw [if_neg stays] at idle ⊢
        exact unbegun a st idle
    · rw [State.axis_breakGroup] at st ⊢
      split at st
      · simp [Axis.heldBroken] at st
      · next stays =>
        obtain ⟨h, head, arrived⟩ := gates a st
        have n : h ≠ g := fun e => stays (e ▸ arrived)
        rw [if_neg stays]
        exact ⟨h, head, by rwa [State.arrived_breakGroup, if_neg n]⟩
    · rw [State.members_breakGroup, State.arrived_breakGroup]
      split
      · exact fun nonempty => nonempty.symm
      · exact sets h
  steps w a := by
    rw [State.axis_breakGroup]
    split
    · exact w a
    · exact w a

/-! ## A device reset -/

theorem State.cleared.still {t : State} (h : t.cleared) (a : AxisId) :
    (t.axis a).st = .off ∧ (t.axis a).ctx = none ∧ (t.axis a).faultRecord = none ∧ (t.axis a).output.turnTo = none := by
  obtain ⟨inputs, e⟩ := h.axes a
  rw [e]
  exact ⟨rfl, rfl, rfl, rfl⟩

theorem State.cleared.nobody {t : State} (h : t.cleared) (g : GroupId) : (t.group g).arrived = 0#4 ∧ (t.group g).members = 0#4 := by
  rw [h.groups]
  exact ⟨rfl, rfl⟩

theorem State.cleared.axesWf {t : State} (h : t.cleared) : t.axesWf := by
  refine ⟨fun a => ?_, fun g a e => ?_⟩
  · obtain ⟨off, idle, clear, -⟩ := h.still a
    exact Axis.wf_of_idle idle clear (by simp [off, AxisState.brakes]) (by simp [off])
  · simp [(h.nobody g).1] at e

theorem State.cleared.restWf {t : State} (h : t.cleared) : t.restWf := by
  refine ⟨fun a st => ?_, fun a st => ?_, fun g nonempty => absurd (h.nobody g).2 nonempty⟩
  · simp [(h.still a).1] at st
  · simp [(h.still a).1] at st

theorem State.cleared.stepsWf {t : State} (h : t.cleared) : t.stepsWf := fun a => by
  obtain ⟨-, idle, -, still⟩ := h.still a
  exact ⟨fun c k => by simp [idle] at k, fun k => by simp [still] at k⟩

theorem State.cleared.steadies {t : State} (h : t.cleared) : s.steadies t :=
  ⟨fun _ => ⟨h.refCountWf, h.axesWf⟩, fun _ _ => h.restWf, fun _ => h.stepsWf⟩

theorem State.steadies_blank (s : State) (power : Power) : s.steadies (s.blank power) := (s.cleared_blank power).steadies

theorem State.steadies_deviceReset (s : State) (cause : ResetCause) : s.steadies (s.deviceReset cause) :=
  (s.steadies_blank .on).trans (State.steadies_report _ _)

/-! ## Link events -/

theorem State.steadies_beginFrame (s : State) (kind : TxKind) (bytes : List Byte) : s.steadies (s.beginFrame kind bytes) :=
  s.steadies_modLink _

theorem State.steadies_linkReset (s : State) : s.steadies s.linkReset := by
  unfold State.linkReset
  exact (((s.steadies_modLink _).trans (State.steadies_setReports _ _)).trans (State.steadies_restartSilence _)).trans
    (State.steadies_modCounters _ _)

end SeekTriggers

/-! ## Every command -/

/-- An event answers a next state, which keeps the invariants of the axes. -/
def State.answersSteady (s : State) (o : Host.Outcome State Fault Refusal) : Prop := ∃ t, o = .next t ∧ s.steadies t

section EventsSteady
variable (s : State) (a : AxisId)

theorem answersSteady_frameTimeout : s.answersSteady (execFrameTimeout s) := by
  refine ⟨_, rfl, ?_⟩
  split
  · exact .refl s
  · exact ((s.steadies_passTo _).trans (State.steadies_modLink _ _)).trans (State.steadies_modCounters _ _)

theorem answersSteady_breakRecognised : s.answersSteady (execBreakRecognised s) := by
  refine ⟨_, rfl, ?_⟩
  split
  · exact s.steadies_modLink _
  · exact .refl s

theorem answersSteady_linkReset : s.answersSteady (execLinkReset s) := by
  refine ⟨_, rfl, ?_⟩
  split
  · split
    · exact s.steadies_linkReset.trans (State.steadies_deviceReset _ _)
    · exact s.steadies_linkReset
  · exact .refl s

theorem answersSteady_replyFrameBegin : s.answersSteady (execReplyFrameBegin s) := by
  refine ⟨_, rfl, ?_⟩
  split
  · split
    · exact .refl s
    · exact (s.steadies_beginFrame _ _).trans (State.steadies_modLink _ _)
  · exact .refl s

theorem answersSteady_replyFrameEnd : s.answersSteady (execReplyFrameEnd s) := by
  refine ⟨_, rfl, ?_⟩
  split
  · split
    · exact (s.steadies_deviceReset _).trans (State.steadies_modLink _ _)
    · exact s.steadies_modLink _
  · exact .refl s

theorem answersSteady_reportFrameBegin : s.answersSteady (execReportFrameBegin s) := by
  refine ⟨_, rfl, ?_⟩
  split
  · exact .refl s
  · exact (s.steadies_setReports _).trans (State.steadies_beginFrame _ _ _)

theorem answersSteady_reportFrameEnd : s.answersSteady (execReportFrameEnd s) := by
  refine ⟨_, rfl, ?_⟩
  split
  · exact s.steadies_modLink _
  · exact .refl s

theorem answersSteady_takeByte (b : Byte) (taken : Bool) :
    s.answersSteady (.next (if taken then s.modLink (Link.takeByte s.clock b) else s)) := by
  refine ⟨_, rfl, ?_⟩
  split
  · exact s.steadies_modLink _
  · exact .refl s

theorem answersSteady_byteDelivered (b : Byte) : s.answersSteady (execByteDelivered b s) := by
  refine ⟨_, rfl, ?_⟩
  split
  · exact s.steadies_modLink _
  · exact .refl s

theorem answersSteady_frameReceived (b : Byte) : s.answersSteady (execFrameReceived b s) := answersSteady_takeByte s b _

theorem answersSteady_lengthError (b : Byte) : s.answersSteady (execLengthError b s) := answersSteady_takeByte s b _

theorem answersSteady_retransmitTimerExpiry : s.answersSteady (execRetransmitTimerExpiry s) := by
  refine ⟨_, rfl, ?_⟩
  split
  · exact .refl s
  · exact ((s.steadies_passToMicros _).trans (State.steadies_setReports _ _)).trans (State.steadies_modCounters _ _)

theorem answersSteady_silenceTimerExpiry : s.answersSteady (execSilenceTimerExpiry s) := by
  refine ⟨_, rfl, ?_⟩
  split
  · exact .refl s
  · exact ((s.steadies_passToMicros _).trans (State.steadies_modAxes _)).trans (State.steadies_modLink _ _)

theorem answersSteady_barrierTimerExpiry (g : GroupId) : s.answersSteady (execBarrierTimerExpiry g s) := by
  refine ⟨_, rfl, ?_⟩
  split
  · exact .refl s
  · exact (s.steadies_passToMicros _).trans (State.steadies_breakGroup _ g)

theorem answersSteady_stepDue : s.answersSteady (execStepDue a s) := by
  refine ⟨_, rfl, ?_⟩
  split
  · exact .refl s
  · exact (s.steadies_passTo _).trans (State.steadies_settle _ _)

/-- The pulse of an axis may have ended. -/
theorem State.steadies_endPulseIfOver (now : Nat) : s.steadies (s.modAxis a (Axis.endPulseIfOver now)) :=
  State.steadies_setAxis (s.keeps_modAxis a (Axis.sameStore_endPulseIfOver now)) (by
    have steps := Axis.stepsWf_endPulseIfOver (x := s.axis a) now
    rw [Axis.endPulseIfOver_frame] at steps ⊢
    exact ⟨rfl, id, fun _ _ => id, fun _ => id, steps⟩)

theorem Ctx.stepsWf.room {c : Ctx} (w : c.stepsWf) {t : Nat} (h : c.delayed = some t) : c.stepsDone < c.seg.body.total :=
  w.2 (by simp [h])

/-- A step whose delay has passed is one that the segment still has (R28, R35). -/
theorem State.steadies_delayedStep {s : State} {a : AxisId} {c : Ctx} (ctx : (s.axis a).ctx = some c)
    (room : s.stepsWf → c.stepsDone < c.seg.body.total) : s.steadies (settleAll (s.attemptStep a)) :=
  State.steadies_settleAll (s.keeps_attemptStep a)
    (fun w => State.stepsWf_attemptStep w fun d m => by
      rw [ctx] at m
      cases m
      exact room w)
    fun w => State.worksOn_attemptStep w.2 ctx

theorem answersSteady_delayedStepIssue : s.answersSteady (execDelayedStepIssue a s) := by
  refine ⟨_, rfl, ?_⟩
  split
  · exact .refl s
  · next issueAt delayed =>
    split
    · obtain ⟨c, ctx, waits⟩ := Option.bind_eq_some_iff.mp delayed
      have ended := (s.steadies_passTo issueAt).trans (State.steadies_endPulseIfOver _ a (s.passTo issueAt).clock)
      refine ended.trans ?_
      obtain ⟨d, ctx', waits'⟩ : ∃ d, (((s.passTo issueAt).modAxis a (Axis.endPulseIfOver (s.passTo issueAt).clock)).axis a).ctx = some d
          ∧ d.delayed = some issueAt := by
        rw [State.axis_modAxis_self, Axis.endPulseIfOver_frame, State.axis_passTo]
        split
        · by_cases timing : c.phase = .timing
          · exact ⟨{ c with dwellLeft := c.dwellLeft - (issueAt / Config.quartersPerMicro - s.clock / Config.quartersPerMicro) },
              by simp only [Axis.spend, ctx, if_pos timing], waits⟩
          · exact ⟨c, by simp only [Axis.spend, ctx, if_neg timing], waits⟩
        · exact ⟨c, ctx, waits⟩
      exact State.steadies_delayedStep ctx' fun w => ((w a).1 d ctx').room waits'
    · exact .refl s

theorem answersSteady_stepPulseEnd : s.answersSteady (execStepPulseEnd a s) := by
  refine ⟨_, rfl, ?_⟩
  split
  · refine (s.steadies_passTo _).trans (State.steadies_modAxis _ a (f := Axis.endPulse) (fun _ => ⟨rfl, rfl, rfl, rfl, rfl⟩)
      fun x => ⟨rfl, id, fun _ _ => id, fun _ => id, fun w => ⟨w.1, ?_⟩⟩)
    unfold Axis.endPulse StepOutput.endPulse
    cases x.output.turnTo <;> simp [StepOutput.turn]
  · exact .refl s

theorem answersSteady_dwellExpiry : s.answersSteady (execDwellExpiry a s) := by
  refine ⟨_, rfl, ?_⟩
  split
  · exact .refl s
  · next left running =>
    have st : (s.axis a).st = .run := by
      unfold Axis.dwellRunning at running
      split at running
      · cases running
      · split at running
        · next timing =>
          simp only [Bool.and_eq_true, decide_eq_true_eq] at timing
          exact timing.1
        · cases running
    refine (s.steadies_passToMicros _).trans (State.steadies_settleAll (State.keeps_completeAtRest _ a)
      (State.noFurther_completeAtRest _ a).stepsWf (a := a) fun w => ?_)
    have run : ((s.passToMicros (s.micros + left)).axis a).st = .run := (s.st_passTo _ a).trans st
    refine (State.changesTo_completeAtRest _ a).worksOn (w.2.2.outside fun e => ?_) ?_ (fun e => ?_) fun _ => ⟨none, .inl ?_⟩
    · exact absurd (run.symm.trans e) (by decide)
    · exact Axis.wf_runDeparted ((w.2.1 a).1.clear (fun e => absurd (run.symm.trans e) (by decide))
        fun e => absurd (run.symm.trans e) (by decide)) (by simpa using run) (by simp) (by simp)
    · simp only [Axis.st_departed] at e
      exact absurd (run.symm.trans e) (by decide)
    · exact List.mem_singleton.mpr rfl

theorem answersSteady_rawInputChange (p : InputPin) (level : Bool) : s.answersSteady (execRawInputChange p level s) := by
  refine ⟨_, rfl, ?_⟩
  cases p with
  | axis a i =>
    dsimp only
    exact s.steadies_modAxis a
  | trip => exact s.steadies_setTrip _
  | baud1 | baud0 => exact s.steadies_setStraps _

theorem answersSteady_limitInputChange (which : LimitInput) : s.answersSteady (execLimitInputChange a which s) := by
  refine ⟨_, rfl, ?_⟩
  split
  · exact .refl s
  · exact (s.steadies_passTo _).trans (State.steadies_deliverInput _ a _)

theorem answersSteady_dfltChange : s.answersSteady (execDfltChange a s) := by
  refine ⟨_, rfl, ?_⟩
  split
  · exact .refl s
  · have h := (s.steadies_passTo ‹_›).trans (State.steadies_deliverInput _ a .dflt)
    dsimp only
    split
    · exact h.trans (State.steadies_raiseCause _ a _)
    · exact h

theorem answersSteady_tripChange : s.answersSteady (execTripChange s) := by
  refine ⟨_, rfl, ?_⟩
  split
  · exact .refl s
  · dsimp only
    split
    · exact ((s.steadies_passTo _).trans (State.steadies_setTrip _ _)).trans (State.steadies_modAxes _)
    · exact (s.steadies_passTo _).trans (State.steadies_setTrip _ _)

theorem answersSteady_tripCause : s.answersSteady (execTripCause a s) := by
  refine ⟨_, rfl, ?_⟩
  split
  · dsimp only
    split
    · exact (s.steadies_modAxis a).trans (State.steadies_raiseCause _ a _)
    · exact s.steadies_modAxis a
  · exact .refl s

theorem answersSteady_seekTriggerEdge : s.answersSteady (execSeekTriggerEdge a s) := by
  refine ⟨_, rfl, ?_⟩
  split
  · next pending => exact State.steadies_triggerFound (Axis.st_of_triggerPending pending)
  · split
    · next watches =>
      split
      · exact .refl s
      · refine ((s.steadies_passTo _).trans (State.steadies_deliverInput _ a _)).trans (State.steadies_triggerFound ?_)
        rw [State.st_deliverInput, State.st_passTo]
        exact Axis.st_of_watches watches
    · split
      · next watches =>
        rw [Bool.and_eq_true] at watches
        split
        · exact .refl s
        · refine ((s.steadies_passTo _).trans (State.steadies_deliverEnci _ a)).trans (State.steadies_triggerFound ?_)
          rw [State.st_deliverEnci, State.st_passTo]
          exact Axis.st_of_watches watches.1
      · exact .refl s

theorem answersSteady_homeInputChange : s.answersSteady (execHomeInputChange a s) := by
  refine ⟨_, rfl, ?_⟩
  split
  · exact .refl s
  · split
    · exact .refl s
    · exact (s.steadies_passTo _).trans (State.steadies_deliverInput _ a _)

theorem answersSteady_indexEdge : s.answersSteady (execIndexEdge a s) := by
  refine ⟨_, rfl, ?_⟩
  split
  · exact s.steadies_takeIndexEdge a
  · split
    · exact .refl s
    · exact ((s.steadies_passTo _).trans (State.steadies_deliverEnci _ a)).trans (State.steadies_takeIndexEdge _ a)

theorem answersSteady_quadratureTransition : s.answersSteady (execQuadratureTransition a s) := by
  refine ⟨_, rfl, ?_⟩
  split
  · exact .refl s
  · exact (((s.steadies_passTo _).trans (State.steadies_deliverChannel _ a _ _)).trans (State.steadies_deliverChannel _ a _ _)).trans
      (State.steadies_takePair _ a)

theorem answersSteady_powerOn : s.answersSteady (execPowerOn s) := by
  refine ⟨_, rfl, ?_⟩
  split
  · exact s.steadies_blank .held
  · exact s.steadies_deviceReset _

theorem answersSteady_resetnAssert : s.answersSteady (execResetnAssert s) := by
  refine ⟨_, rfl, ?_⟩
  split
  · exact s.steadies_setResetn true
  · exact (s.steadies_blank .held).trans (State.steadies_setResetn _ true)

theorem answersSteady_resetnRelease : s.answersSteady (execResetnRelease s) := by
  refine ⟨_, rfl, ?_⟩
  split
  · exact (s.steadies_setResetn false).trans (State.steadies_deviceReset _ _)
  · exact s.steadies_setResetn false

theorem answersSteady_takeRequest (code : Byte) {h : Handler} (k : Handler.steadies h) :
    s.answersSteady (.next (s.takeRequest code h)) := ⟨_, rfl, s.steadies_takeRequest code k⟩

end EventsSteady

theorem exec_answersSteady (c : Instr) (s : State) : s.answersSteady (exec c s) := by
  cases c with
  | loadSegments => exact answersSteady_takeRequest s _ steadies_loadSegments
  | trimQueue => exact answersSteady_takeRequest s _ steadies_trimQueue
  | flushQueue => exact answersSteady_takeRequest s _ steadies_flushQueue
  | configureQueue => exact answersSteady_takeRequest s _ steadies_configureQueue
  | enableAxis => exact answersSteady_takeRequest s _ steadies_enableAxis
  | disableAxis => exact answersSteady_takeRequest s _ steadies_disableAxis
  | startAxis => exact answersSteady_takeRequest s _ steadies_startAxis
  | holdAxis => exact answersSteady_takeRequest s _ steadies_holdAxis
  | resumeAxis => exact answersSteady_takeRequest s _ steadies_resumeAxis
  | stopAxis => exact answersSteady_takeRequest s _ steadies_stopAxis
  | setPosition => exact answersSteady_takeRequest s _ steadies_setPosition
  | defineGroup => exact answersSteady_takeRequest s _ steadies_defineGroup
  | readGroupStatus => exact answersSteady_takeRequest s _ steadies_readGroupStatus
  | configureProtection => exact answersSteady_takeRequest s _ steadies_configureProtection
  | clearFault => exact answersSteady_takeRequest s _ steadies_clearFault
  | configureReports => exact answersSteady_takeRequest s _ steadies_configureReports
  | acknowledgeReports => exact answersSteady_takeRequest s _ steadies_acknowledgeReports
  | replayReports => exact answersSteady_takeRequest s _ steadies_replayReports
  | configureLink => exact answersSteady_takeRequest s _ steadies_configureLink
  | readLinkStatus => exact answersSteady_takeRequest s _ steadies_readLinkStatus
  | resetDevice => exact answersSteady_takeRequest s _ steadies_resetDevice
  | noOperation => exact answersSteady_takeRequest s _ steadies_noOperation
  | configureAxis => exact answersSteady_takeRequest s _ steadies_configureAxis
  | readAxisStatus => exact answersSteady_takeRequest s _ steadies_readAxisStatus
  | readDeviceInfo => exact answersSteady_takeRequest s _ steadies_readDeviceInfo
  | unknownRequest => exact ⟨_, rfl, s.steadies_takeUnknown⟩
  | duplicate => exact ⟨_, rfl, s.steadies_takeDuplicate⟩
  | byteDelivered b => exact answersSteady_byteDelivered s b
  | frameReceived b => exact answersSteady_frameReceived s b
  | lengthError b => exact answersSteady_lengthError s b
  | frameTimeout => exact answersSteady_frameTimeout s
  | breakRecognised => exact answersSteady_breakRecognised s
  | linkReset => exact answersSteady_linkReset s
  | replyFrameBegin => exact answersSteady_replyFrameBegin s
  | replyFrameEnd => exact answersSteady_replyFrameEnd s
  | reportFrameBegin => exact answersSteady_reportFrameBegin s
  | reportFrameEnd => exact answersSteady_reportFrameEnd s
  | retransmitTimerExpiry => exact answersSteady_retransmitTimerExpiry s
  | silenceTimerExpiry => exact answersSteady_silenceTimerExpiry s
  | silenceCause a => exact ⟨_, rfl, s.steadies_takeSilence a⟩
  | barrierTimerExpiry g => exact answersSteady_barrierTimerExpiry s g
  | stepDue a => exact answersSteady_stepDue s a
  | delayedStepIssue a => exact answersSteady_delayedStepIssue s a
  | stepPulseEnd a => exact answersSteady_stepPulseEnd s a
  | dwellExpiry a => exact answersSteady_dwellExpiry s a
  | rawInputChange p level => exact answersSteady_rawInputChange s p level
  | limitInputChange a which => exact answersSteady_limitInputChange s a which
  | dfltChange a => exact answersSteady_dfltChange s a
  | seekTriggerEdge a => exact answersSteady_seekTriggerEdge s a
  | homeInputChange a => exact answersSteady_homeInputChange s a
  | indexEdge a => exact answersSteady_indexEdge s a
  | quadratureTransition a => exact answersSteady_quadratureTransition s a
  | tripCause a => exact answersSteady_tripCause s a
  | tripChange => exact answersSteady_tripChange s
  | powerOn => exact answersSteady_powerOn s
  | resetnAssert => exact answersSteady_resetnAssert s
  | resetnRelease => exact answersSteady_resetnRelease s
  | powerLoss => exact ⟨_, rfl, s.steadies_blank .off⟩

theorem State.steadies_exec {c : Instr} {s t : State} (h : exec c s = .next t) : s.steadies t := by
  obtain ⟨u, e, k⟩ := exec_answersSteady c s
  cases e.symm.trans h
  exact k

/-! ## Every step -/

/-- Settles O57. -/
theorem everyStepKeepsTheAxes : Obligations.EveryStepKeepsTheAxes := fun _ _ h r w =>
  (step_keeps (P := State.fits) (fun _ _ _ => id) (fun s q => (s.steadies_passTo q).fits) (fun _ _ _ e => (State.steadies_exec e).fits) h
    ⟨r, w⟩).2

/-- Settles O58. -/
theorem everyStepComesToRest : Obligations.EveryStepComesToRest := fun _ _ h r w rest =>
  (step_keeps (P := fun s => s.fits ∧ s.restWf) (fun _ _ _ => id)
    (fun s q ⟨w, rest⟩ => ⟨(s.steadies_passTo q).fits w, (s.steadies_passTo q).rest w rest⟩)
    (fun _ _ _ e ⟨w, rest⟩ => ⟨(State.steadies_exec e).fits w, (State.steadies_exec e).rest w rest⟩) h ⟨⟨r, w⟩, rest⟩).2

/-- Settles O59. -/
theorem everyStepKeepsValuesInRange : Obligations.EveryStepKeepsValuesInRange := fun _ _ h =>
  ⟨step_keeps (P := State.stepsWf) (fun _ _ _ => id) (fun s q => (s.steadies_passTo q).steps) (fun _ _ _ e => (State.steadies_exec e).steps) h,
    step_keeps (P := fun s => s.link.wf) (fun _ _ _ => id) (fun s q => (s.keeps_passTo q).link) (fun _ _ _ e => (State.keeps_exec e).link) h,
    step_keeps (P := State.settingsWf) (fun _ _ _ => id) (fun s q => (s.keeps_passTo q).settings)
      (fun _ _ _ e => (State.keeps_exec e).settings) h⟩

end Sys2Proof.Machine

/-!
PROOF. Device resets: the values of R166, the state after the first reset, and the ways a reset comes about (R149, R165).
-/

namespace Sys2Proof.Machine

/-! ## The values of a device reset -/

/-- An axis after a device reset over its raw levels (R24, R50, R96, R134, R178). -/
theorem State.axis_afterReset {t : State} {a : AxisId} {inputs : AxisInputs} (e : t.axis a = .reset inputs.resettle) :
    (t.axis a).st = .off ∧ (t.axis a).ctx = none ∧ (t.axis a).position = 0 ∧ (t.axis a).rate = 0
      ∧ (t.axis a).lastDir = .positive ∧ (t.axis a).enaPin = false ∧ (t.axis a).stepPin = false ∧ (t.axis a).dirPin = true
      ∧ (t.axis a).queue = [] ∧ (t.axis a).quota = 32 ∧ (t.axis a).threshold = 4 ∧ (t.axis a).owedFlush = false
      ∧ (t.axis a).faultRecord = none
      ∧ (t.axis a).settings = ⟨200, 50, 2, 2, false, true, false, false, false, 3, 1, false, 4, false⟩
      ∧ (t.axis a).protection = ⟨0, .brake, .halt, .halt, .halt, .halt, .brake, true, false, true⟩
      ∧ (t.axis a).encoder = ⟨0, none, 0, 0, 0, false⟩
      ∧ ∀ i, (t.axis a).inputs.line i = ⟨(inputs.line i).raw, (inputs.line i).raw, none⟩ := by
  rw [e]
  exact ⟨rfl, rfl, rfl, rfl, rfl, rfl, rfl, rfl, rfl, rfl, rfl, rfl, rfl, rfl, rfl, rfl, fun i => by cases i <;> rfl⟩

theorem State.axis_deviceReset (s : State) (cause : ResetCause) (a : AxisId) :
    (s.deviceReset cause).axis a = .reset (s.axis a).inputs.resettle := s.axis_blank .on a

theorem State.deviceTime_blank (s : State) (power : Power) : (s.blank power).deviceTime = 0 := by
  simp [State.deviceTime, State.micros, State.blank]

/-- Reset Notice is the only entry (R149). -/
theorem State.reports_deviceReset (s : State) (cause : ResetCause) :
    (s.deviceReset cause).reports = ⟨[⟨0, 0, .resetNotice cause 1, false, false⟩], 1, true, 4, 50, none⟩ := by
  rw [State.deviceReset, State.reports_report, State.deviceTime_blank]
  rfl

theorem State.afterReset_deviceReset (s : State) (cause : ResetCause) : s.afterReset cause (s.deviceReset cause) :=
  ⟨rfl, rfl, rfl, rfl, rfl, rfl, rfl, fun a => State.axis_afterReset (s.axis_deviceReset cause a), fun g => s.group_blank .on g,
    s.reports_deviceReset cause, by simp [State.attnActive, s.reports_deviceReset], by
      simp [State.attnPin, State.attnActive, s.reports_deviceReset], rfl, rfl, rfl, rfl, rfl, rfl, rfl, rfl, rfl, rfl⟩

/-! ## The state after the first reset -/

theorem State.axis_reset (a : AxisId) : State.reset.axis a = .reset AxisInputs.atFirstReset := Vector.getElem_replicate _

theorem State.group_reset (g : GroupId) : State.reset.group g = .reset := Vector.getElem_replicate _

theorem State.cleared_reset : State.reset.cleared where
  axes a := ⟨_, State.axis_reset a⟩
  groups := State.group_reset
  pool := rfl
  order := ⟨by decide, ⟨rfl, trivial⟩, by simp [State.reset, ReportUnit.reset], fun _ => by decide⟩
  marks := ⟨by simp [State.reset, ReportUnit.reset, onlyAtFront], by simp [State.reset, ReportUnit.reset, onlyAtFront], by decide,
    by simp [State.reset, ReportUnit.reset]⟩
  unit := ⟨rfl, rfl⟩
  range := by simp [State.reset, Link.reset, Link.wf, LinkCounters.reset]
  silence := rfl

theorem State.afterReset_reset : State.reset.afterReset .powerOn State.reset :=
  have inputs (a : AxisId) : State.reset.axis a = .reset (State.reset.axis a).inputs.resettle := by
    rw [State.axis_reset]
    rfl
  ⟨rfl, rfl, rfl, rfl, rfl, rfl, rfl, fun a => State.axis_afterReset (inputs a), State.group_reset,
    rfl, rfl, rfl, rfl, rfl, rfl, rfl, rfl, rfl, rfl, rfl, rfl, rfl⟩

/-- Settles O60. -/
theorem resetStateIsAsTheRulesSay : Obligations.ResetStateIsAsTheRulesSay :=
  have reset := State.cleared_reset
  ⟨State.afterReset_reset, rfl, reset.poolWf, reset.quotaWf, reset.refCountWf, reset.order, reset.marks, reset.stepsWf, reset.axesWf,
    reset.restWf, reset.range, reset.settingsWf⟩

/-! ## Supply and RESETN (R165, R166) -/

/-- Without supply or held in reset no byte is received (log 1). -/
theorem execByteDelivered_of_off {s : State} (h : s.power ≠ .on) (b : Byte) : exec (.byteDelivered b) s = .next s :=
  congrArg Host.Outcome.next (if_neg h)

theorem step_of_off {s : State} (h : s.power ≠ .on) (idle : s.pending = []) : step s = .next s := by
  rw [step, idle]
  exact if_neg h

/-- Settles O43. -/
theorem supplyAndResetnResetTheDevice : Obligations.SupplyAndResetnResetTheDevice := by
  refine ⟨fun s low => ⟨s.deviceReset .powerOn, ?_, s.afterReset_deviceReset _, rfl⟩, fun s => ⟨fun on => ?_, fun held => ?_, fun off => ?_,
    fun unheld => ?_⟩, fun s => ?_⟩
  · simp only [exec, execPowerOn, low, Bool.false_eq_true, if_false]
  · refine ⟨{ s.blank .held with resetnLow := true }, congrArg Host.Outcome.next (if_neg on), rfl, rfl, rfl, fun a => ?_, rfl, rfl, rfl, rfl,
      fun b => execByteDelivered_of_off (by simp [State.blank]) b⟩
    obtain ⟨-, -, -, -, -, ena, pulse, dir, -⟩ := State.axis_afterReset (s.axis_blank .held a)
    exact ⟨ena, pulse, dir⟩
  · exact ⟨_, congrArg Host.Outcome.next (if_pos held), rfl, State.afterReset_deviceReset { s with resetnLow := false } .pin⟩
  · exact congrArg Host.Outcome.next (if_pos off)
  · exact congrArg Host.Outcome.next (if_neg unheld)
  · exact ⟨s.blank .off, rfl, rfl, rfl, step_of_off (by simp [State.blank]) rfl,
      fun b => execByteDelivered_of_off (by simp [State.blank]) b, rfl, rfl⟩

/-! ## Reset Device (R165) -/

/-- While a Reset Device waits for its reply no frame is taken (R156). -/
theorem State.decoderReady_of_resetPending {s : State} (h : s.link.resetPending = true) : s.decoderReady = false := by
  simp [State.decoderReady, h]

theorem State.takeRequest_of_notReady {s : State} (h : s.decoderReady = false) (code : Byte) (k : Handler) :
    s.takeRequest code k = s := by
  obtain e | ⟨f, rest, ready, -⟩ := s.takeRequest_cases code k
  · exact e
  · rw [h] at ready
    cases ready

theorem State.takeUnknown_of_notReady {s : State} (h : s.decoderReady = false) : s.takeUnknown = s := by
  unfold State.takeUnknown
  split
  · rfl
  · exact if_neg (by simp [h])

theorem State.takeDuplicate_of_notReady {s : State} (h : s.decoderReady = false) : s.takeDuplicate = s := by
  unfold State.takeDuplicate
  split
  · rfl
  · exact if_neg (by simp [h])

theorem execReplyFrameEnd_of_reply {s : State} {x : TxFrame} (tx : s.link.tx = some x) (reply : x.kind = .reply) :
    exec .replyFrameEnd s = .next
      (if s.link.resetPending then (s.deviceReset .request).modLink fun l => { l with inBreak := s.link.inBreak }
      else s.modLink fun l => { l with tx := none, replySlot := none }) :=
  congrArg Host.Outcome.next (if_pos (by simp [tx, reply]))

/-- Settles O44. -/
theorem resetDeviceWaitsForItsReply : Obligations.ResetDeviceWaitsForItsReply := by
  refine ⟨fun s f rest offered code payload => ?_, fun s pending _ f rest _ => ?_, fun s x tx reply => ⟨fun pending => ?_, fun pending => ?_⟩⟩
  · have handled : resetDevice f.payload (s.takeFrame rest)
        = ((s.takeFrame rest).modLink fun l => { l with resetPending := true }, [0]) := by
      rw [payload]
      exact checkLength_of_eq rfl
    refine congrArg Host.Outcome.next ?_
    rw [State.takeRequest_of_offers _ offered code, handled, State.takeFrame_eq]
    rfl
  · have ready := State.decoderReady_of_resetPending pending
    exact ⟨congrArg _ (State.takeRequest_of_notReady ready _ _), congrArg _ (State.takeRequest_of_notReady ready _ _),
      congrArg _ (State.takeUnknown_of_notReady ready), congrArg _ (State.takeDuplicate_of_notReady ready)⟩
  · rw [execReplyFrameEnd_of_reply tx reply, if_pos pending]
    exact ⟨_, rfl, s.afterReset_deviceReset .request, rfl⟩
  · rw [execReplyFrameEnd_of_reply tx reply, if_neg (by simp [pending])]
    rfl

end Sys2Proof.Machine

/-!
PROOF. The line: the receiver, break and link reset, and the transmitter (R152 to R155, R159, R179).
-/

namespace Sys2Proof.Machine

/-! ## One byte (R152) -/

section OneByte
variable {l : Link} {clock : Nat} {b len : Byte} {kept : List Byte}

theorem Link.takeByte_inBreak (h : l.inBreak = true) : l.takeByte clock b = l := by simp [Link.takeByte, h]

theorem Link.takeByte_hunting (free : l.inBreak = false) (h : l.receiver = .hunting) :
    l.takeByte clock b = if b = 0x96 then { l with receiver := .length, gapStart := some clock } else l := by
  simp [Link.takeByte, free, h]

theorem Link.takeByte_length (free : l.inBreak = false) (h : l.receiver = .length) :
    l.takeByte clock b = if badLengthByte b then l.lengthErrorByte else { l with receiver := .body b [], gapStart := some clock } := by
  simp [Link.takeByte, free, h]

theorem Link.takeByte_body (free : l.inBreak = false) (h : l.receiver = .body len kept) :
    l.takeByte clock b = l.bodyByte clock len kept b := by
  simp [Link.takeByte, free, h]

theorem Link.takeByte_body_of_lt (free : l.inBreak = false) (h : l.receiver = .body len kept) (room : kept.length + 1 < len.toNat + 2) :
    l.takeByte clock b = { l with receiver := .body len (kept ++ [b]), gapStart := some clock } := by
  rw [Link.takeByte_body free h, Link.bodyByte, if_neg (by omega)]

theorem badLengthByte_iff : badLengthByte b = true ↔ b.toNat < 3 ∨ 250 < b.toNat := by simp [badLengthByte]

/-- The last byte of a frame (R153), whose bytes behind the length are these. -/
theorem Link.takeByte_last {kind seq code lo hi : Byte} {payload : List Byte} (free : l.inBreak = false)
    (h : l.receiver = .body len kept) (size : payload.length + 3 = len.toNat)
    (bytes : kept ++ [hi] = kind :: seq :: code :: payload ++ [lo, hi]) :
    l.takeByte clock hi =
      if lo.toNat + 256 * hi.toNat ≠ (crc16 (len :: kind :: seq :: code :: payload)).toNat then
        { l.hunt with counters := { l.counters with crcErrors := satInc l.counters.crcErrors } }
      else if kind ≠ 1 then l.hunt
      else if l.rxBuffer.length < 2 then { l.hunt with rxBuffer := l.rxBuffer ++ [⟨seq, code, payload⟩] }
      else { l.hunt with counters := { l.counters with overruns := satInc l.counters.overruns } } := by
  have length : (kind :: seq :: code :: payload).length = len.toNat := by simpa using size
  have last : kept.length + 1 = len.toNat + 2 := by
    have := congrArg List.length bytes
    simp only [List.length_append, List.length_cons, List.length_nil] at this length
    omega
  have check : leNat [lo, hi] = lo.toNat + 256 * hi.toNat := by simp [leNat]
  rw [Link.takeByte_body free h, Link.bodyByte, if_pos last, bytes, Link.checkFrame]
  simp only [List.take_left' length, List.drop_left' length, check]
  rfl

end OneByte

/-! ## The receiver's commands -/

section ReceiverCommands
variable {s : State} {b : Byte}

theorem execByteDelivered_of_on (on : s.power = .on) (b : Byte) :
    exec (.byteDelivered b) s = .next { s with link := s.link.takeByte s.clock b } := congrArg Host.Outcome.next (if_pos on)

theorem execLengthError_of_length (on : s.power = .on) (length : s.link.receiver = .length) (bad : badLengthByte b = true) :
    exec (.lengthError b) s = .next { s with link := s.link.takeByte s.clock b } :=
  congrArg Host.Outcome.next (if_pos (by simp [on, length, bad]))

theorem execFrameReceived_of_on (on : s.power = .on) (complete : s.link.completes = true) (b : Byte) :
    exec (.frameReceived b) s = .next { s with link := s.link.takeByte s.clock b } :=
  congrArg Host.Outcome.next (if_pos (by simp [on, complete]))

theorem execFrameReceived_inBreak (h : s.link.inBreak = true) (b : Byte) : exec (.frameReceived b) s = .next s := by
  refine congrArg Host.Outcome.next ?_
  split
  · rw [State.modLink, Link.takeByte_inBreak h]
  · rfl

end ReceiverCommands

/-- Settles O10. -/
theorem receiverTakesBytesGapsAndBreaks : Obligations.ReceiverTakesBytesGapsAndBreaks := by
  refine ⟨fun s b on free => ⟨fun hunting other => ?_, fun hunting start => ?_, fun length low high => ?_, fun i mem length bad => ?_,
    fun len kept body room => ?_⟩, fun s g gap passed => ?_, fun s on => congrArg Host.Outcome.next (if_pos on), fun s b on inBreak => ?_⟩
  · rw [execByteDelivered_of_on on, Link.takeByte_hunting free hunting, if_neg other]
  · rw [execByteDelivered_of_on on, Link.takeByte_hunting free hunting, if_pos start]
  · have good : ¬badLengthByte b = true := by
      rw [badLengthByte_iff]
      omega
    rw [execByteDelivered_of_on on, Link.takeByte_length free length, if_neg good]
  · have bad := badLengthByte_iff.mpr bad
    have taken : exec i s = .next { s with link := s.link.takeByte s.clock b } := by
      simp only [List.mem_cons, List.not_mem_nil, or_false] at mem
      rcases mem with rfl | rfl
      · exact execByteDelivered_of_on on b
      · exact execLengthError_of_length on length bad
    rw [taken, Link.takeByte_length free length, if_pos bad]
    rfl
  · rw [execByteDelivered_of_on on, Link.takeByte_body_of_lt free body room]
  · have now : s.passTo (g + Config.gapLimit) = s := s.passTo_of_le passed
    simp only [exec, execFrameTimeout, gap, now]
    rfl
  · exact ⟨by rw [execByteDelivered_of_on on, Link.takeByte_inBreak inBreak], execFrameReceived_inBreak inBreak b⟩

/-- Settles O11. -/
theorem completeFrameIsChecked : Obligations.CompleteFrameIsChecked := by
  rintro s len kind seq code lo hi kept payload i on free size body bytes mem l rfl
  have taken : exec i s = .next { s with link := s.link.takeByte s.clock hi } := by
    simp only [List.mem_cons, List.not_mem_nil, or_false] at mem
    rcases mem with rfl | rfl
    · refine execFrameReceived_of_on on ?_ hi
      have := congrArg List.length bytes
      simp only [List.length_append, List.length_cons, List.length_nil] at this
      simp only [Link.completes, body, beq_iff_eq]
      omega
    · exact execByteDelivered_of_on on hi
  rw [taken, Link.takeByte_last free body size bytes]
  refine ⟨fun wrong => ?_, fun right => ⟨fun other => ?_, fun request room => ?_, fun request full => ?_⟩⟩
  · rw [if_pos wrong]
    rfl
  · rw [if_neg (not_not.mpr right), if_pos other]
    rfl
  · rw [if_neg (not_not.mpr right), if_neg (not_not.mpr request), if_pos room]
    rfl
  · rw [if_neg (not_not.mpr right), if_neg (not_not.mpr request), if_neg (Nat.not_lt.mpr full)]
    rfl

/-! ## A whole frame (R152, R179) -/

/-- The link after bytes taken one after another. -/
def Link.takeBytes (clock : Nat) (bytes : List Byte) (l : Link) : Link := bytes.foldl (fun l b => l.takeByte clock b) l

theorem State.receive_eq {s : State} (on : s.power = .on) (bytes : List Byte) :
    s.receive bytes = { s with link := s.link.takeBytes s.clock bytes } := by
  induction bytes generalizing s with
  | nil => rfl
  | cons b bytes ih =>
    rw [State.receive, List.foldl_cons, execByteDelivered_of_on on]
    exact ih (s := { s with link := s.link.takeByte s.clock b }) on

/-- Bytes in BODY before the last one are kept. -/
theorem Link.takeBytes_body {l : Link} {clock : Nat} {len : Byte} {kept bytes : List Byte} (free : l.inBreak = false)
    (h : l.receiver = .body len kept) (gap : l.gapStart = some clock) (room : kept.length + bytes.length < len.toNat + 2) :
    l.takeBytes clock bytes = { l with receiver := .body len (kept ++ bytes) } := by
  induction bytes generalizing l kept with
  | nil =>
    rw [List.append_nil, ← h]
    rfl
  | cons b bytes ih =>
    rw [List.length_cons] at room
    rw [Link.takeBytes, List.foldl_cons, Link.takeByte_body_of_lt free h (by omega)]
    refine (ih (l := { l with receiver := .body len (kept ++ [b]), gapStart := some clock }) free rfl rfl ?_).trans ?_
    · rw [List.length_append, List.length_singleton]
      omega
    · rw [List.append_assoc, List.singleton_append, ← gap]

theorem leNat_bytes16 (w : Word16) : ∃ lo hi : Byte, bytes16 w = [lo, hi] ∧ lo.toNat + 256 * hi.toNat = w.toNat := by
  refine ⟨BitVec.ofNat 8 w.toNat, BitVec.ofNat 8 (w.toNat / 256), rfl, ?_⟩
  have := w.isLt
  simp only [BitVec.toNat_ofNat]
  omega

/-- The start byte and a good length byte, to a hunting receiver. -/
theorem Link.takeBytes_begin {l : Link} {clock : Nat} {len : Byte} {bytes : List Byte} (free : l.inBreak = false)
    (h : l.receiver = .hunting) (good : ¬badLengthByte len = true) :
    l.takeBytes clock (0x96 :: len :: bytes)
      = Link.takeBytes clock bytes { l with receiver := .body len [], gapStart := some clock } := by
  have start : l.takeByte clock 0x96 = { l with receiver := .length, gapStart := some clock } := by
    rw [Link.takeByte_hunting free h, if_pos rfl]
  have length : Link.takeByte clock len { l with receiver := .length, gapStart := some clock }
      = { l with receiver := .body len [], gapStart := some clock } := by
    rw [Link.takeByte_length (l := { l with receiver := .length, gapStart := some clock }) free rfl, if_neg good]
  rw [Link.takeBytes, List.foldl_cons, List.foldl_cons, start, length, Link.takeBytes]

/-- A whole request frame with a right check value, to a hunting receiver with room. -/
theorem Link.takeBytes_frame {l : Link} {clock : Nat} {len seq code lo hi : Byte} {payload : List Byte} (free : l.inBreak = false)
    (h : l.receiver = .hunting) (still : l.gapStart = none) (room : l.rxBuffer.length < 2) (good : ¬badLengthByte len = true)
    (size : payload.length + 3 = len.toNat)
    (check : lo.toNat + 256 * hi.toNat = (crc16 (len :: 1 :: seq :: code :: payload)).toNat) :
    l.takeBytes clock (0x96 :: len :: (1 :: seq :: code :: payload ++ [lo]) ++ [hi])
      = { l with rxBuffer := l.rxBuffer ++ [⟨seq, code, payload⟩] } := by
  have kept : ∀ k : Link, k.inBreak = false → k.receiver = .body len [] → k.gapStart = some clock →
      k.takeBytes clock (1 :: seq :: code :: payload ++ [lo]) = { k with receiver := .body len (1 :: seq :: code :: payload ++ [lo]) } :=
    fun k free body gap => Link.takeBytes_body (kept := []) free body gap (by simp; omega)
  have body := Link.takeBytes_begin (clock := clock) (bytes := (1 :: seq :: code :: payload ++ [lo]) ++ [hi]) free h good
  have last := Link.takeByte_last (clock := clock) (kind := 1) (seq := seq) (code := code) (lo := lo) (hi := hi) (l := { l with
    receiver := .body len (1 :: seq :: code :: payload ++ [lo]), gapStart := some clock }) free rfl size (by simp)
  rw [if_neg (not_not.mpr check), if_neg (by decide), if_pos room] at last
  calc l.takeBytes clock (0x96 :: len :: (1 :: seq :: code :: payload ++ [lo]) ++ [hi])
    _ = Link.takeBytes clock ((1 :: seq :: code :: payload ++ [lo]) ++ [hi]) { l with receiver := .body len [], gapStart := some clock } := body
    _ = Link.takeByte clock hi { l with receiver := .body len (1 :: seq :: code :: payload ++ [lo]), gapStart := some clock } := by
      rw [Link.takeBytes, List.foldl_append, List.foldl_cons, List.foldl_nil]
      exact congrArg (Link.takeByte clock hi) (kept { l with receiver := .body len [], gapStart := some clock } free rfl rfl)
    _ = { l with rxBuffer := l.rxBuffer ++ [⟨seq, code, payload⟩] } := by
      rw [last, Link.hunt, ← h, ← still]

/-- Settles O9. -/
theorem requestFrameIsReceived : Obligations.RequestFrameIsReceived := by
  intro s f on free hunting still room short
  obtain ⟨lo, hi, check, value⟩ := leNat_bytes16 (crc16 (BitVec.ofNat 8 (f.payload.length + 3) :: 1 :: f.seq :: f.code :: f.payload))
  have size : (BitVec.ofNat 8 (f.payload.length + 3)).toNat = f.payload.length + 3 := by
    rw [BitVec.toNat_ofNat]
    omega
  have good : ¬badLengthByte (BitVec.ofNat 8 (f.payload.length + 3)) = true := by
    rw [badLengthByte_iff, size]
    omega
  have bytes : frameBytes 1 f.seq f.code f.payload
      = 0x96 :: BitVec.ofNat 8 (f.payload.length + 3) :: (1 :: f.seq :: f.code :: f.payload ++ [lo]) ++ [hi] := by
    rw [frameBytes, check]
    simp
  rw [State.receive_eq on, bytes, Link.takeBytes_frame free hunting still room good size.symm value]

/-! ## The link reset (R155) -/

theorem State.restartSilence_eq (s : State) : s.restartSilence = { s with
    link := { s.link with
      silenceTimer := if s.link.silenceTimeout = 0 then s.link.silenceTimer else some (s.micros + s.link.silenceTimeout * 1000) } } := by
  unfold State.restartSilence
  split <;> rfl

theorem State.linkReset_eq (s : State) : s.linkReset = { s with
    link := { s.link with
      receiver := .hunting, gapStart := none, inBreak := false, rxBuffer := []
      dup := { s.link.dup with valid := false }
      replySlot := if s.link.replyWaits then none else s.link.replySlot
      silenceTimer := if s.link.silenceTimeout = 0 then s.link.silenceTimer else some (s.micros + s.link.silenceTimeout * 1000)
      counters := { s.link.counters with linkResets := satInc s.link.counters.linkResets } }
    reports := s.reports.goBack } := by
  rw [State.linkReset, State.restartSilence_eq]
  rfl

/-- Settles O12. -/
theorem linkResetClearsTheLinkAlone : Obligations.LinkResetClearsTheLinkAlone := by
  refine fun s on => ⟨fun kept => ?_, fun x pending slot unbegun => ?_⟩
  · have goesOn : (s.link.resetPending && s.link.replyWaits) = false := by
      rcases kept with h | h
      · simp [h]
      · cases slot : s.link.replySlot with
        | none => simp [Link.replyWaits, slot]
        | some x => simp [Link.replyWaits, slot, h x slot]
    have slots : (if s.link.replyWaits then none else s.link.replySlot) = match s.link.replySlot with
        | none => none
        | some x => if x.begun then some x else none := by
      cases slot : s.link.replySlot with
      | none => simp
      | some x => cases begun : x.begun <;> simp [Link.replyWaits, slot, begun]
    simp only [exec, execLinkReset, on, if_true, goesOn, Bool.false_eq_true, if_false, State.linkReset_eq, slots]
    rfl
  · have waits : s.link.replyWaits = true := by simp [Link.replyWaits, slot, unbegun]
    refine ⟨s.linkReset.deviceReset .request, ?_, ?_⟩
    · simp only [exec, execLinkReset, on, if_true, pending, waits, Bool.and_self]
    · have same : s.linkReset.deviceReset .request = s.deviceReset .request := by
        rw [State.linkReset_eq]
        rfl
      rw [same]
      exact s.afterReset_deviceReset .request

/-! ## Duplicates (R156) -/

/-- Settles O14. -/
theorem duplicateIsAnsweredFromTheRecord : Obligations.DuplicateIsAnsweredFromTheRecord := by
  intro s f rest on buffer slot pending valid seq quiet
  have taken : (s.decoderReady && s.isDuplicate f) = true := by simp [State.decoderReady, State.isDuplicate, on, slot, pending, valid, seq]
  refine congrArg Host.Outcome.next ?_
  rw [State.takeDuplicate, buffer]
  simp only [if_pos taken, State.takeSilences_of_none quiet, State.takeFrame_eq]
  rfl

/-! ## The transmitter (R151, R159) -/

theorem markSent_append {pre post : List Entry} {e : Entry} (sent : ∀ e' ∈ pre, e'.inFlight = true) (fresh : e.inFlight = false) :
    markSent (pre ++ e :: post) = pre ++ { e with inFlight := true, onceSent := true } :: post := by
  induction pre with
  | nil => simp [markSent, fresh]
  | cons d pre ih =>
    rw [List.cons_append, markSent, if_pos (sent d (List.mem_cons_self ..)), ih fun e' m => sent e' (List.mem_cons_of_mem _ m)]
    rfl

theorem find_unsent {pre post : List Entry} {e : Entry} (sent : ∀ e' ∈ pre, e'.inFlight = true) (fresh : e.inFlight = false) :
    (pre ++ e :: post).find? (fun e => !e.inFlight) = some e := by
  rw [List.find?_append, List.find?_eq_none.mpr fun e' m => by simp [sent e' m]]
  simp [fresh]

/-- Settles O13. -/
theorem transmitterServesRepliesFirst : Obligations.TransmitterServesRepliesFirst := by
  refine ⟨fun rate bytes positive => ⟨?_, ?_⟩, fun b1 b0 => ?_, fun s => ⟨fun r d idle slot due => ⟨?_, ?_⟩,
    fun pre e post idle begun streams queue sent fresh room d due => ?_, fun idle nothing => ?_, fun x tx report => ?_⟩⟩
  · have := Nat.lt_div_mul_add (a := bytes * 10 * 4000000 + rate - 1) positive
    rw [lineTime]
    omega
  · have := Nat.div_mul_le_self (bytes * 10 * 4000000 + rate - 1) rate
    rw [lineTime]
    omega
  · cases b1 <;> cases b0 <;> rfl
  · subst due
    simp only [exec, execReplyFrameBegin, idle, slot]
    rfl
  · have waits : s.link.replyWaits = true := by simp [Link.replyWaits, slot]
    simp only [exec, execReportFrameBegin, State.reportToSend, idle, waits]
    rfl
  · have none : s.link.replyWaits = false := by
      cases slot : s.link.replySlot with
      | none => simp [Link.replyWaits, slot]
      | some x => simp [Link.replyWaits, slot, begun x slot]
    have offered : s.reportToSend = some e := by
      simp only [State.reportToSend, idle, none, ReportUnit.offered, streams, room, queue, find_unsent sent fresh]
      rfl
    subst due
    simp only [exec, execReportFrameBegin, offered, ReportUnit.send, queue, markSent_append sent fresh]
    rfl
  · have none : s.reportToSend = none := by
      simp only [State.reportToSend, ReportUnit.offered]
      rcases nothing with off | full | sent
      · simp [off]
      · simp [Nat.not_lt.mpr full]
      · have all : s.reports.queue.find? (fun e => !e.inFlight) = none := List.find?_eq_none.mpr fun e' m => by simp [sent e' m]
        simp [all]
    simp only [exec, execReportFrameBegin, none]
  · exact congrArg Host.Outcome.next (if_pos (by simp [tx, report]))

end Sys2Proof.Machine

/-!
PROOF. The checks of a request: code, length, index (R157), and the states that refuse (R29 to R31, R58, R61, R64, R93, R131, R168).
-/

namespace Sys2Proof.Machine

section Lengths
variable {s : State} {f : Frame} {rest : List Frame} {code : Byte} {n : Nat} {p : List Byte} {a : AxisId}

/-- A request whose payload has another length. -/
theorem State.takeRequest_badLength {h : Handler} (offered : s.offers f rest) (c : f.code = code) (other : f.payload.length ≠ n) :
    s.takeRequest code (checkLength n h) = s.answered f rest [2] :=
  State.takeRequest_of_unchanged offered c (checkLength_of_ne other)

/-- A request that names no axis. -/
theorem State.takeRequest_badAxis {h : AxisId → Handler} (offered : s.offers f rest) (c : f.code = code) (length : f.payload.length = n)
    (bad : 4 ≤ (byteAt f.payload 0).toNat) : s.takeRequest code (checkLength n (onAxis h)) = s.answered f rest [3] :=
  State.takeRequest_of_unchanged offered c ((checkLength_of_eq length).trans (onAxis_of_le bad))

/-- A request that names no group. -/
theorem State.takeRequest_badGroup {h : GroupId → Handler} (offered : s.offers f rest) (c : f.code = code)
    (length : f.payload.length = n) (bad : 8 ≤ (byteAt f.payload 0).toNat) :
    s.takeRequest code (checkLength n (onGroup h)) = s.answered f rest [3] :=
  State.takeRequest_of_unchanged offered c ((checkLength_of_eq length).trans (onGroup_of_le bad))

theorem State.takeUnknown_of_offers (offered : s.offers f rest) (unknown : f.code ∉ requestCodes) :
    s.takeUnknown = s.answered f rest [1] := by
  obtain ⟨on, buffer, slot, pending, fresh, quiet⟩ := offered
  have new : s.isDuplicate f = false := by
    cases v : s.link.dup.valid
    · simp [State.isDuplicate, v]
    · simpa [State.isDuplicate, v] using fresh v
  have taken : (s.decoderReady && !s.isDuplicate f && !requestCodes.contains f.code) = true := by
    simp [State.decoderReady, on, slot, pending, new, unknown]
  rw [State.takeUnknown, buffer]
  simp only [if_pos taken, State.takeSilences_of_none quiet]
  exact s.placeReply_takeFrame f rest _

/-- The check of the length, and then of the axis, of a request on an axis. -/
theorem axisRequest_checked {h : AxisId → Handler} {c : Instr} (offered : s.offers f rest) (code' : f.code = code)
    (e : exec c s = .next (s.takeRequest code (checkLength n (onAxis h)))) :
    (f.payload.length ≠ n → exec c s = .next (s.answered f rest [2]))
      ∧ (f.payload.length = n → 4 ≤ (byteAt f.payload 0).toNat → exec c s = .next (s.answered f rest [3])) :=
  ⟨fun other => e.trans (congrArg _ (State.takeRequest_badLength offered code' other)),
    fun length bad => e.trans (congrArg _ (State.takeRequest_badAxis offered code' length bad))⟩

theorem groupRequest_checked {h : GroupId → Handler} {c : Instr} (offered : s.offers f rest) (code' : f.code = code)
    (e : exec c s = .next (s.takeRequest code (checkLength n (onGroup h)))) :
    (f.payload.length ≠ n → exec c s = .next (s.answered f rest [2]))
      ∧ (f.payload.length = n → 8 ≤ (byteAt f.payload 0).toNat → exec c s = .next (s.answered f rest [3])) :=
  ⟨fun other => e.trans (congrArg _ (State.takeRequest_badLength offered code' other)),
    fun length bad => e.trans (congrArg _ (State.takeRequest_badGroup offered code' length bad))⟩

end Lengths

/-- Settles O15. -/
theorem requestsAreCheckedInOrder : Obligations.RequestsAreCheckedInOrder := by
  refine ⟨fun s f rest offered unknown => congrArg Host.Outcome.next (State.takeUnknown_of_offers offered unknown),
    fun s f rest offered => ⟨fun c mem code => ?_, fun c mem code => ?_, fun c mem code other => ?_, fun code long => ?_⟩⟩
  · simp only [List.mem_cons, List.not_mem_nil, or_false] at mem
    rcases mem with rfl | rfl | rfl | rfl | rfl | rfl | rfl | rfl | rfl | rfl | rfl | rfl | rfl | rfl
    all_goals exact axisRequest_checked offered code rfl
  · simp only [List.mem_cons, List.not_mem_nil, or_false] at mem
    rcases mem with rfl | rfl
    all_goals exact groupRequest_checked offered code rfl
  · simp only [List.mem_cons, List.not_mem_nil, or_false] at mem
    rcases mem with rfl | rfl | rfl | rfl | rfl | rfl | rfl
    all_goals exact congrArg Host.Outcome.next (State.takeRequest_badLength offered code other)
  · exact congrArg Host.Outcome.next (State.takeRequest_of_unchanged offered code (noOperation_of_lt long _))

/-! ## Refused states -/

section RefusedStates
variable {s : State} {f : Frame} {rest : List Frame} {code : Byte} {n : Nat} {p : List Byte} {a : AxisId} {g : GroupId}

/-- A request on an axis that leaves everything as it is, by what its handler answers. -/
theorem State.takeRequest_axis_unchanged {h : AxisId → Handler} (offered : s.offers f rest) (c : f.code = code)
    (length : f.payload.length = n) (byte : byteAt f.payload 0 = axisByte a)
    (e : h a f.payload (s.takeFrame rest) = (s.takeFrame rest, p)) :
    s.takeRequest code (checkLength n (onAxis h)) = s.answered f rest p :=
  State.takeRequest_of_unchanged offered c (((checkLength_of_eq length).trans (onAxis_of_byte byte)).trans e)

theorem twoValued_of_mem {b : Byte} (h : b = 0 ∨ b = 1) : twoValued b = some (decide (b = 1)) := by
  rcases h with rfl | rfl <;> rfl

theorem twoValued_of_ne {b : Byte} (zero : b ≠ 0) (one : b ≠ 1) : twoValued b = none := by
  rw [twoValued, if_neg zero, if_neg one]

end RefusedStates

/-- Settles O16. -/
theorem wrongStateIsRefused : Obligations.WrongStateIsRefused := by
  intro s f rest a offered byte
  refine ⟨fun code length st => congrArg Host.Outcome.next (State.takeRequest_axis_unchanged offered code length byte (if_pos ?_)),
    fun code length st => congrArg Host.Outcome.next (State.takeRequest_axis_unchanged offered code length byte (if_pos ?_)),
    fun code length st => congrArg Host.Outcome.next (State.takeRequest_axis_unchanged offered code length byte (if_pos ?_)),
    fun code length run gate => congrArg Host.Outcome.next (State.takeRequest_axis_unchanged offered code length byte (if_neg ?_)),
    fun code length st => congrArg Host.Outcome.next (State.takeRequest_axis_unchanged offered code length byte (if_pos ?_)),
    fun code length mode st => congrArg Host.Outcome.next (State.takeRequest_axis_unchanged offered code length byte ?_),
    fun code length st => congrArg Host.Outcome.next (State.takeRequest_axis_unchanged offered code length byte (if_neg ?_)),
    fun code length st => congrArg Host.Outcome.next (State.takeRequest_axis_unchanged offered code length byte (if_pos ?_)),
    fun set code length read st => congrArg Host.Outcome.next (State.takeRequest_axis_unchanged offered code length byte ?_)⟩
  · simpa using st
  · simpa using st
  · simpa using st
  · simp [run, gate]
  · simpa using st
  · have refuses : ((s.takeFrame rest).axis a).st.refusesStop = true := by
      simp only [List.mem_cons, List.not_mem_nil, or_false] at st
      rcases st with e | e | e | e <;> simp [e, AxisState.refusesStop]
    simp only [twoValued_of_mem mode, refuses, if_true]
    rfl
  · simp only [List.mem_cons, List.not_mem_nil, or_false] at st
    rcases st with e | e | e | e | e | e <;> simp [e]
  · simpa using st
  · have wrong : ((s.takeFrame rest).axis a).st ≠ .off := by simpa using st
    simp only [read, if_pos wrong]
    rfl

end Sys2Proof.Machine

/-!
PROOF. The requests of the Segment Store: the whole of a request on one axis, and what Load Segments, Trim Queue, Flush Queue, Configure
Queue and Configure Protection answer (R3, R4, R10 to R12, R15, R17, R18, R20, R130, R182).
-/

namespace Sys2Proof.Machine

/-! ## The reply of a request that works on the axes alone -/

section AxisReplies
variable {s t : State} {f : Frame} {rest : List Frame} {code : Byte} {n : Nat} {p : List Byte} {a : AxisId}

/-- A request on an axis whose handler neither reads nor changes the link: its work on the state itself, answered. -/
theorem State.takeRequest_axis {h : AxisId → Handler} (offered : s.offers f rest) (c : f.code = code) (length : f.payload.length = n)
    (byte : byteAt f.payload 0 = axisByte a) (e : ∀ l, h a f.payload (s.withLink l) = (t.withLink l, p)) (m : s.motionOnly t) :
    s.takeRequest code (checkLength n (onAxis h)) = t.answered f rest p := by
  refine State.takeRequest_answered offered c ?_ m.link m.micros
  rw [checkLength_of_eq length, onAxis_of_byte byte, s.takeFrame_withLink rest]
  exact e _

/-- The answered state differs from the answer to the state before by what the motion changed. -/
theorem State.motionOnly.answered (m : s.motionOnly t) (f : Frame) (rest : List Frame) (p : List Byte) :
    t.answered f rest p =
      { s.answered f rest p with axes := t.axes, groups := t.groups, poolFree := t.poolFree, reports := t.reports } := by
  conv_lhs => rw [m]
  rfl

/-- The same when no report is created. -/
theorem State.motionOnly.answered_silent (m : s.motionOnly t) (reports : t.reports = s.reports) (f : Frame) (rest : List Frame)
    (p : List Byte) :
    t.answered f rest p = { s.answered f rest p with axes := t.axes, groups := t.groups, poolFree := t.poolFree } := by
  rw [m.answered, reports]
  rfl

end AxisReplies

/-! ## Records -/

section Records
variable {r : List Byte} {members : GroupId → BitVec 4} {a : AxisId}

/-- Why a record is refused for its kind and values, in the order of the checks of R3. -/
def recordReason (r : List Byte) : Option SegReason :=
  if (byteAt r 0).toNat = 1 then
    if field r 4 3 = 0 ∨ field r 4 3 = 8388608 then some .badSteps
    else if field r 7 3 < 16 ∨ 250000 < field r 7 3 ∨ field r 10 3 < 16 ∨ 250000 < field r 10 3 then some .badRate
    else none
  else if (byteAt r 0).toNat = 2 then if field r 4 3 = 0 then some .badDuration else none
  else if (byteAt r 0).toNat = 3 then
    if field r 8 3 = 0 ∨ 8388607 < field r 8 3 then some .badMaxSteps
    else if field r 5 3 < 16 ∨ 250000 < field r 5 3 then some .badRate
    else none
  else if (byteAt r 0).toNat = 4 then none
  else some .badKind

/-- The kind byte as a number. -/
theorem kind_toNat (b : Byte) : (b.toNat = 1 ↔ b = 1) ∧ (b.toNat = 2 ↔ b = 2) ∧ (b.toNat = 3 ↔ b = 3) ∧ (b.toNat = 4 ↔ b = 4) := by
  simp only [← BitVec.toNat_inj]
  exact ⟨.rfl, .rfl, .rfl, .rfl⟩

/-- The one 24-bit number out of the range of R2 besides 0 is −8388608. -/
theorem signed24_bad {n : Nat} (h : n < 16777216) :
    (signed24 n = 0 || decide (Config.maxStepCount < (signed24 n).natAbs)) = true ↔ n = 0 ∨ n = 8388608 := by
  unfold signed24 Config.maxStepCount
  simp only [Bool.or_eq_true, decide_eq_true_eq]
  split <;> omega

theorem signed24_inRange {n : Nat} (h : n < 16777216) (good : ¬(n = 0 ∨ n = 8388608)) :
    signed24 n ≠ 0 ∧ (signed24 n).natAbs ≤ 8388607 := by
  unfold signed24
  split <;> omega

theorem rateInRange_iff {n : Nat} : rateInRange n = true ↔ 16 ≤ n ∧ n ≤ 250000 := by
  rw [rateInRange, Bool.and_eq_true, decide_eq_true_eq, decide_eq_true_eq]
  rfl

/-- The rate check of a MOVE record. -/
theorem rates_bad {m n : Nat} :
    (!rateInRange m || !rateInRange n) = true ↔ m < 16 ∨ 250000 < m ∨ n < 16 ∨ 250000 < n := by
  rw [Bool.or_eq_true, Bool.not_eq_true', Bool.not_eq_true', ← Bool.not_eq_true, ← Bool.not_eq_true, rateInRange_iff, rateInRange_iff]
  omega

/-- The step count check of a SEEK record. -/
theorem maxSteps_bad {n : Nat} : (decide (n = 0) || decide (Config.maxStepCount < n)) = true ↔ n = 0 ∨ 8388607 < n := by
  rw [Bool.or_eq_true, decide_eq_true_eq, decide_eq_true_eq]
  rfl

theorem rate_bad {n : Nat} : (!rateInRange n) = true ↔ n < 16 ∨ 250000 < n := by
  rw [Bool.not_eq_true', ← Bool.not_eq_true, rateInRange_iff]
  omega

/-- A record body is refused for its reason, and one without a reason is read in its ranges (R2, R3). -/
theorem recordBody_reason (r : List Byte) :
    match recordReason r with
    | some e => recordBody r = .error e
    | none => ∃ body : SegBody, body.inRange ∧ recordBody r = .ok body := by
  have f4 := field_lt r 4 3
  unfold recordReason recordBody
  obtain ⟨one, two, three, four⟩ := kind_toNat (byteAt r 0)
  simp only [one, two, three, four, rates_bad, rate_bad, maxSteps_bad, signed24_bad f4]
  by_cases move : byteAt r 0 = 1
  · rw [if_pos move, if_pos move]
    by_cases steps : field r 4 3 = 0 ∨ field r 4 3 = 8388608
    · simp only [if_pos steps]
    · by_cases rates : field r 7 3 < 16 ∨ 250000 < field r 7 3 ∨ field r 10 3 < 16 ∨ 250000 < field r 10 3
      · simp only [if_neg steps, if_pos rates]
      · simp only [if_neg steps, if_neg rates]
        obtain ⟨nonzero, small⟩ := signed24_inRange f4 steps
        refine ⟨_, ?_, rfl⟩
        exact ⟨nonzero, small, by omega, by omega, by omega, by omega⟩
  by_cases dwell : byteAt r 0 = 2
  · rw [if_neg move, if_neg move, if_pos dwell, if_pos dwell]
    by_cases zero : field r 4 3 = 0
    · simp only [if_pos zero]
    · simp only [if_neg zero]
      refine ⟨_, ?_, rfl⟩
      exact ⟨by omega, by omega⟩
  by_cases seek : byteAt r 0 = 3
  · rw [if_neg move, if_neg move, if_neg dwell, if_neg dwell, if_pos seek, if_pos seek]
    by_cases steps : field r 8 3 = 0 ∨ 8388607 < field r 8 3
    · simp only [if_pos steps]
    · by_cases rate : field r 5 3 < 16 ∨ 250000 < field r 5 3
      · simp only [if_neg steps, if_pos rate]
      · simp only [if_neg steps, if_neg rate]
        refine ⟨_, ?_, rfl⟩
        exact ⟨by omega, by omega, by omega, by omega⟩
  by_cases mark : byteAt r 0 = 4
  · simp only [if_neg move, if_neg dwell, if_neg seek, if_pos mark]
    exact ⟨.mark, trivial, rfl⟩
  · simp only [if_neg move, if_neg dwell, if_neg seek, if_neg mark]

theorem readRecord_of_error {e : SegReason} (h : recordReason r = some e) : readRecord members a r = .error e := by
  have body := recordBody_reason r
  rw [h] at body
  simp only [readRecord, show recordBody r = .error e from body]

/-- The gate of a record whose flag is set. -/
theorem recordGate_of_flag {g : GroupId} (index : g.val = (byteAt r 1).toNat / 4 % 8) (gated : (byteAt r 1).getLsbD 1 = true) :
    recordGate r = some g := by
  rw [recordGate, flag, if_pos gated]
  exact congrArg some (Fin.ext index.symm)

theorem recordGate_of_clear (ungated : (byteAt r 1).getLsbD 1 = false) : recordGate r = none := by
  rw [recordGate, flag, ungated]
  rfl

/-- The gate checks and the reading of a record whose body is valid. -/
theorem readRecord_of_valid (h : recordReason r = none) {g : GroupId} (index : g.val = (byteAt r 1).toNat / 4 % 8) :
    ((byteAt r 1).getLsbD 1 = true → members g = 0 → readRecord members a r = .error .gateUndefined)
      ∧ ((byteAt r 1).getLsbD 1 = true → members g ≠ 0 → inSet (members g) a = false →
        readRecord members a r = .error .gateNotMember)
      ∧ ((byteAt r 1).getLsbD 1 = false ∨ inSet (members g) a = true → ∃ body : SegBody, body.inRange
        ∧ readRecord members a r =
          .ok ⟨BitVec.ofNat 16 (field r 2 2), if (byteAt r 1).getLsbD 1 then some g else none, body⟩) := by
  have found := recordBody_reason r
  rw [h] at found
  obtain ⟨body, range, read⟩ := found
  refine ⟨fun gated none => ?_, fun gated some other => ?_, fun passes => ⟨body, range, ?_⟩⟩
  · simp [readRecord, read, recordGate_of_flag index gated, none]
  · simp only [readRecord, read, recordGate_of_flag index gated, if_neg some, other, Bool.not_false, if_true]
  · cases gated : (byteAt r 1).getLsbD 1
    · simp only [readRecord, read, recordGate_of_clear gated, Bool.false_eq_true, if_false]
    · have member : inSet (members g) a = true := passes.resolve_left (by simp [gated])
      have defined : members g ≠ 0 := fun e => by simp [e, inSet] at member
      simp only [readRecord, read, recordGate_of_flag index gated, if_neg defined, member, Bool.not_true, Bool.false_eq_true, if_false, if_true]

/-- All records are read exactly when each one is. -/
theorem readRecords_ok_iff {i : Nat} {rs : List (List Byte)} {segs : List Segment} :
    readRecords members a i rs = .ok segs ↔ rs.map (readRecord members a) = segs.map Except.ok := by
  induction rs generalizing i segs with
  | nil => cases segs <;> simp [readRecords]
  | cons r rs ih =>
    cases first : readRecord members a r with
    | error e => cases segs <;> simp [readRecords, first]
    | ok seg =>
      cases later : readRecords members a (i + 1) rs with
      | error e =>
        cases segs with
        | nil => simp [readRecords, first, later]
        | cons seg' segs =>
          have none : ¬rs.map (readRecord members a) = segs.map Except.ok := fun h => by simp [ih.mpr h] at later
          simp [readRecords, first, later, none]
      | ok segs' =>
        have some := ih.mp later
        cases segs with
        | nil => simp [readRecords, first, later]
        | cons seg' segs =>
          have same : rs.map (readRecord members a) = segs.map Except.ok ↔ segs' = segs := by
            rw [some]
            exact (List.map_injective_iff.mpr fun _ _ => Except.ok.inj).eq_iff
          simp [readRecords, first, later, same]

theorem readRecords_error_le {j k : Nat} {rs : List (List Byte)} {e : SegReason} (h : readRecords members a k rs = .error (j, e)) :
    k ≤ j := by
  induction rs generalizing k with
  | nil => cases h
  | cons r rs ih =>
    rw [readRecords] at h
    split at h
    · cases h
      exact Nat.le_refl _
    · split at h
      · next later =>
        cases h
        exact Nat.le_of_succ_le (ih later)
      · cases h

/-- Reading fails at the first invalid record, with its index and reason (R4). -/
theorem readRecords_error_iff {i k : Nat} {rs : List (List Byte)} {reason : SegReason} :
    readRecords members a k rs = .error (k + i, reason) ↔
      (∃ r, rs[i]? = some r ∧ readRecord members a r = .error reason)
        ∧ ∀ j, j < i → ∃ r seg, rs[j]? = some r ∧ readRecord members a r = .ok seg := by
  induction rs generalizing i k with
  | nil => simp [readRecords]
  | cons r rs ih =>
    cases first : readRecord members a r with
    | error e =>
      cases i with
      | zero => simp [readRecords, first]
      | succ i =>
        have stop : ¬∀ j, j < i + 1 → ∃ r' seg, (r :: rs)[j]? = some r' ∧ readRecord members a r' = .ok seg := fun all => by
          obtain ⟨r', seg, here, ok⟩ := all 0 (Nat.succ_pos i)
          simp only [List.getElem?_cons_zero, Option.some.injEq] at here
          rw [← here, first] at ok
          cases ok
        refine iff_of_false (fun h => ?_) fun h => stop h.2
        simp [readRecords, first] at h
    | ok seg =>
      cases i with
      | zero =>
        cases rest : readRecords members a (k + 1) rs with
        | error e =>
          obtain ⟨j, e⟩ := e
          have ne : j ≠ k := (Nat.lt_of_succ_le (readRecords_error_le rest)).ne'
          simp [readRecords, first, rest, ne]
        | ok segs => simp [readRecords, first, rest]
      | succ i =>
        have rest := ih (i := i) (k := k + 1)
        rw [show k + 1 + i = k + (i + 1) by omega] at rest
        have shift : (∀ j, j < i + 1 → ∃ r' seg, (r :: rs)[j]? = some r' ∧ readRecord members a r' = .ok seg) ↔
            ∀ j, j < i → ∃ r' seg, rs[j]? = some r' ∧ readRecord members a r' = .ok seg := by
          refine ⟨fun all j lt => by simpa using all (j + 1) (Nat.succ_lt_succ lt), fun all j lt => ?_⟩
          cases j with
          | zero => exact ⟨r, seg, rfl, first⟩
          | succ j => simpa using all j (Nat.lt_of_succ_lt_succ lt)
        rw [shift, List.getElem?_cons_succ, ← rest, readRecords]
        simp only [first]
        cases readRecords members a (k + 1) rs <;> simp

end Records

/-! ## Load Segments -/

section LoadSegments
variable {s t : State} {f : Frame} {rest : List Frame} {a : AxisId} {n : Nat}

/-- A load that its handler leaves without an effect. -/
theorem execLoadSegments_unchanged {p : List Byte} (offered : s.offers f rest) (c : f.code = 0x10)
    (e : loadSegments f.payload (s.takeFrame rest) = (s.takeFrame rest, p)) : exec .loadSegments s = .next (s.answered f rest p) :=
  congrArg Host.Outcome.next (State.takeRequest_of_unchanged offered c e)

/-- The payload of a load has its axis and its length, and its handler goes on to the number of records (R11). -/
theorem loadSegments_counted {p : List Byte} (byte : byteAt p 0 = axisByte a) (long : 2 ≤ p.length)
    (count : n = (byteAt p 1).toNat) (length : p.length = 2 + 14 * n) (s : State) :
    loadSegments p s = if n = 0 || 8 < n then refuse s .badParam else loadRecords a n p s := by
  subst count
  rw [loadSegments, if_neg (by omega), onAxis_of_byte byte]
  exact if_neg (not_not.mpr length)

theorem loadSegments_records {p : List Byte} (byte : byteAt p 0 = axisByte a) (count : n = (byteAt p 1).toNat)
    (length : p.length = 2 + 14 * n) (low : 1 ≤ n) (high : n ≤ 8) (s : State) : loadSegments p s = loadRecords a n p s := by
  rw [loadSegments_counted byte (by omega) count length]
  exact if_neg (by simp; omega)

/-- A load that is accepted: its records are admitted, and a starved axis begins the first one. -/
theorem execLoadSegments_admitted {segs : List Segment} (offered : s.offers f rest) (c : f.code = 0x10) (low : 1 ≤ n) (high : n ≤ 8)
    (length : f.payload.length = 2 + 14 * n) (byte : byteAt f.payload 0 = axisByte a) (count : byteAt f.payload 1 = BitVec.ofNat 8 n)
    (read : readRecords (fun g => (s.group g).members) a 0 (recordsOf f.payload n) = .ok segs)
    (fits : (s.axis a).depth + n ≤ (s.axis a).quota) (free : n ≤ s.poolFree)
    (t' : t = (s.enqueue a segs).afterLoad a (s.axis a).starved) :
    exec .loadSegments s = .next (t.answered f rest [0, BitVec.ofNat 8 (t.axis a).depth, BitVec.ofNat 8 t.poolFree]) := by
  have number : n = (byteAt f.payload 1).toNat := by
    rw [count, BitVec.toNat_ofNat]
    omega
  have m : s.motionOnly t := by
    rw [t']
    refine (s.touches_enqueue a segs).1.trans ?_
    unfold State.afterLoad
    split
    · exact State.motionOnly_settle _ _
    · exact .refl _
  refine congrArg Host.Outcome.next (State.takeRequest_answered offered c ?_ m.link m.micros)
  rw [loadSegments_records byte number length low high, s.takeFrame_withLink rest, loadRecords]
  have same : (fun g => ((s.withLink (s.takeFrame rest).link).group g).members) = fun g => (s.group g).members := rfl
  rw [same, read]
  dsimp only
  rw [if_neg (by simpa using fits), if_neg (by simpa using free), State.withLink_enqueue]
  have after : ∀ l b, ((s.enqueue a segs).withLink l).afterLoad a b = ((s.enqueue a segs).afterLoad a b).withLink l := fun l b => by
    cases b
    · rfl
    · exact State.withLink_settle _ _ _
  rw [State.axis_withLink, after, ← t']
  rfl

end LoadSegments

theorem Axis.starved_iff (x : Axis) : x.starved = true ↔ x.st = .run ∧ x.ctx = none ∧ x.queue = [] := by
  simp [Axis.starved, and_assoc]

/-- Settles O17. -/
theorem loadSegmentsAdmitsAllRecords : Obligations.LoadSegmentsAdmitsAllRecords := by
  intro s f rest a n segs offered code low high length byte count read fits free busy
  have len : segs.length = n := (readRecords_gate read).1.trans (length_recordsOf _ _)
  have starved : (s.axis a).starved = false := by simpa [← Axis.starved_iff] using busy
  obtain ⟨touches, axis, pool, groups, reports⟩ := s.enqueue_spec segs a
  refine ⟨_, execLoadSegments_admitted offered code low high length byte count read fits free rfl, ?_⟩
  rw [starved]
  refine ⟨axis, touches.2, by rw [← len]; exact pool, groups, ?_⟩
  have depth : ((s.enqueue a segs).axis a).depth = (s.axis a).depth + n := by simp [axis, Axis.depth, len]
  have poolFree : (s.enqueue a segs).poolFree = s.poolFree - n := by rw [pool, len]
  rw [State.afterLoad, if_neg (by simp), depth, poolFree]
  exact touches.1.answered_silent reports f rest _

/-- Settles O19. -/
theorem loadSegmentsIsRefusedInOrder : Obligations.LoadSegmentsIsRefusedInOrder := by
  refine ⟨fun members a r kind fourth reason g k4 f4 index e => ?_, rfl, fun payload n => ⟨length_recordsOf payload n, fun i lt => ?_⟩,
    fun members a rs => ⟨fun segs => readRecords_ok_iff, fun i reason => ?_⟩, fun s f rest offered code => ⟨?_, ?_, ?_⟩⟩
  · subst k4 f4
    have same : recordReason r = reason := e.symm
    exact ⟨fun e h => readRecord_of_error (same.trans h), fun h => readRecord_of_valid (same.trans h) index⟩
  · simp [recordsOf, lt]
  · simpa using readRecords_error_iff (members := members) (a := a) (i := i) (k := 0) (rs := rs) (reason := reason)
  · exact fun short => execLoadSegments_unchanged offered code (if_pos short)
  · exact fun long bad => execLoadSegments_unchanged offered code ((if_neg (Nat.not_lt.mpr long)).trans (onAxis_of_le bad))
  · refine fun a long byte => ⟨fun other => ?_, fun n count length => ⟨fun bad => ?_, fun low high => ⟨fun i reason invalid => ?_, ?_⟩⟩⟩
    · exact execLoadSegments_unchanged offered code
        (((if_neg (Nat.not_lt.mpr long)).trans (onAxis_of_byte byte)).trans (if_pos other))
    · exact execLoadSegments_unchanged offered code ((loadSegments_counted byte long count length _).trans (if_pos (by simpa using bad)))
    · refine execLoadSegments_unchanged offered code ((loadSegments_records byte count length low high _).trans ?_)
      have members : (fun g => ((s.takeFrame rest).group g).members) = fun g => (s.group g).members := by simp
      rw [loadRecords, members, invalid]
      rfl
    · intro segs read
      have members : (fun g => ((s.takeFrame rest).group g).members) = fun g => (s.group g).members := by simp
      refine ⟨fun full => ?_, fun room empty => ?_⟩
      · refine execLoadSegments_unchanged offered code ((loadSegments_records byte count length low high _).trans ?_)
        rw [loadRecords, members, read]
        simp only [State.axis_takeFrame, if_pos full]
        rfl
      · refine execLoadSegments_unchanged offered code ((loadSegments_records byte count length low high _).trans ?_)
        rw [loadRecords, members, read]
        simp only [State.axis_takeFrame, State.poolFree_takeFrame, if_neg (Nat.not_lt.mpr room), if_pos empty]
        rfl

/-! ## Trim and Flush Queue -/

/-- Settles O20. -/
theorem trimQueueStopsAtTheProtectedSegments : Obligations.TrimQueueStopsAtTheProtectedSegments := by
  intro s f rest a n offered code payload
  have length : f.payload.length = 2 := by simp [payload]
  have byte : byteAt f.payload 0 = axisByte a := by simp [payload, byteAt]
  have count : byteAt f.payload 1 = n := by simp [payload, byteAt]
  refine ⟨fun bad => ?_, fun low high kept k => ?_⟩
  · refine congrArg Host.Outcome.next (State.takeRequest_axis_unchanged offered code length byte (if_pos ?_))
    rcases bad with rfl | big
    · simp [count]
    · simp [count, big]
  · obtain ⟨touches, axis, pool, groups, reports⟩ := s.dropTail_spec a kept
    refine ⟨(s.dropTail a kept).answered f rest _, congrArg Host.Outcome.next (State.takeRequest_axis offered code length byte
      (fun l => ?_) touches.1), axis, touches.2, pool, groups, touches.1.answered_silent reports f rest _⟩
    have good : ¬((decide ((byteAt f.payload 1).toNat = 0) || decide (128 < (byteAt f.payload 1).toNat)) = true) := by
      simp only [count, Bool.or_eq_true, decide_eq_true_eq]
      omega
    have keep : max (((s.withLink l).axis a).depth - (byteAt f.payload 1).toNat)
        (min ((s.withLink l).axis a).protectedCount ((s.withLink l).axis a).depth) = kept := by
      rw [k, count, Nat.min_comm]
      rfl
    refine (if_neg good).trans ?_
    dsimp only
    rw [keep, State.withLink_dropTail]
    rfl

/-- The queue keeps its active segment alone, or nothing, when no axis is in GATE. -/
theorem State.flush_of_kept {s : State} {a : AxisId} {kept : Nat}
    (h : (s.axis a).ctx.isSome ∧ kept = 1 ∨ (s.axis a).ctx = none ∧ (s.axis a).st ≠ .gate ∧ kept = 0) :
    s.flush a = s.dropTail a kept := by
  rcases h with ⟨active, rfl⟩ | ⟨idle, gate, rfl⟩
  · exact if_pos active
  · rw [State.flush, idle, if_neg (by simp), if_neg gate]

theorem State.flush_of_gate {s : State} {a : AxisId} (idle : (s.axis a).ctx = none) (gate : (s.axis a).st = .gate) :
    s.flush a = ((s.withdraw a).dropTail a 0).starve a := by
  rw [State.flush, idle, if_neg (by simp), if_pos gate]

theorem State.withLink_flush (s : State) (l : Link) (a : AxisId) : (s.withLink l).flush a = (s.flush a).withLink l := by
  unfold State.flush
  simp only [State.axis_withLink, State.withLink_dropTail, State.withLink_withdraw, State.withLink_starve, State.withLink_ite]

theorem State.touches_flush (s : State) (a : AxisId) : s.touches a (s.flush a) := by
  unfold State.flush
  dsimp only
  split
  · exact s.touches_dropTail a 1
  · split
    · exact ((s.touches_withdraw a).trans (State.touches_dropTail _ a 0)).trans (State.touches_modAxis _ a _)
    · exact s.touches_dropTail a 0

/-- What Flush Queue answers, by the flush it does. -/
theorem execFlushQueue_eq {s : State} {f : Frame} {rest : List Frame} {a : AxisId} (offered : s.offers f rest) (code : f.code = 0x12)
    (payload : f.payload = [axisByte a]) :
    exec .flushQueue s = .next ((s.flush a).answered f rest [0, BitVec.ofNat 8 ((s.axis a).depth - ((s.flush a).axis a).depth),
      BitVec.ofNat 8 ((s.flush a).axis a).depth]) := by
  have length : f.payload.length = 1 := by simp [payload]
  have byte : byteAt f.payload 0 = axisByte a := by simp [payload, byteAt]
  refine congrArg Host.Outcome.next (State.takeRequest_axis offered code length byte (fun l => ?_) (s.touches_flush a).1)
  simp only [State.withLink_flush]
  rfl

/-- Settles O21. -/
theorem flushQueueKeepsTheActiveSegment : Obligations.FlushQueueKeepsTheActiveSegment := by
  intro s f rest a offered code payload
  refine ⟨fun kept k => ?_, fun g idle gate head => ?_⟩
  · obtain ⟨touches, axis, pool, groups, reports⟩ := s.dropTail_spec a kept
    refine ⟨_, execFlushQueue_eq offered code payload, ?_⟩
    rw [State.flush_of_kept k]
    refine ⟨axis, touches.2, pool, groups, ?_⟩
    have short : (s.axis a).depth - ((s.axis a).queue.take kept).length = (s.axis a).depth - kept := by
      simp only [Axis.depth, List.length_take]
      omega
    have depth : ((s.dropTail a kept).axis a).depth = ((s.axis a).queue.take kept).length := by rw [axis, Axis.depth]
    rw [depth, short]
    exact touches.1.answered_silent reports f rest _
  · have eq : s.withdraw a = s.withdrawFrom g a := by simp [State.withdraw, gate, head]
    obtain ⟨touches, axis, pool, groups, reports⟩ := (s.withdrawFrom g a).dropTail_spec a 0
    have flush : s.flush a = ((s.withdrawFrom g a).dropTail a 0).starve a := by rw [State.flush_of_gate idle gate, eq]
    have final : (s.flush a).axis a = { s.axis a with queue := [], st := .run, rate := 0 } := by
      rw [flush, State.starve, State.axis_modAxis_self, axis]
      rfl
    refine ⟨_, execFlushQueue_eq offered code payload, final, (s.touches_flush a).2, ?_, ?_, fun h other => ?_, ?_⟩
    · rw [flush]
      exact pool
    · rw [flush]
      refine (groups g).trans ?_
      simp [State.groupLess, State.withdrawFrom]
    · rw [flush]
      refine (groups h).trans ?_
      rw [State.groupLess, State.withdrawFrom, State.group_modGroup_ne s _ other]
      rfl
    · have none : ((s.flush a).axis a).depth = 0 := by rw [final]; rfl
      rw [none, Nat.sub_zero]
      exact (s.touches_flush a).1.answered_silent (by rw [flush]; exact reports) f rest _

end Sys2Proof.Machine

/-!
PROOF. The requests that set one axis at once: Configure Queue, Configure Protection, Enable and Disable Axis, Clear Fault, Configure Axis
(R20, R29, R30, R130, R131, R168 to R173).
-/

namespace Sys2Proof.Machine

section QueueRequests
variable {s : State} {f : Frame} {rest : List Frame} {code : Byte} {n : Nat} {p : List Byte} {a : AxisId}

/-- A request on an axis whose handler sets that axis alone. -/
theorem State.takeRequest_setAxis {h : AxisId → Handler} {x : Axis} (offered : s.offers f rest) (c : f.code = code)
    (length : f.payload.length = n) (byte : byteAt f.payload 0 = axisByte a)
    (e : ∀ l, h a f.payload (s.withLink l) = ((s.setAxis a x).withLink l, p)) :
    s.takeRequest code (checkLength n (onAxis h)) = (s.setAxis a x).answered f rest p :=
  State.takeRequest_axis offered c length byte e (s.touches_setAxis a x).1

/-- The number in the bytes of a payload that are those of a number. -/
theorem field_of_drop {i k m : Nat} {post : List Byte} (h : m < 256 ^ k) (e : p.drop i = leBytes k m ++ post) : field p i k = m := by
  rw [field, e, List.take_left' (length_leBytes k m), leNat_leBytes h]

theorem flagBits_eq_and (flags : Byte) : flagBit 0 (flags.getLsbD 0) ||| flagBit 1 (flags.getLsbD 1) = flags &&& 3 := by
  revert flags
  decide

/-! ## Protection settings -/

/-- A policy byte in its values. -/
theorem readPolicy_of_mem {b : Byte} (h : b = 0 ∨ b = 1) : readPolicy b = some (if b = 0 then .halt else .brake) := by
  rcases h with rfl | rfl <;> rfl

theorem readPolicy_of_ne {b : Byte} (h : b ≠ 0 ∧ b ≠ 1) : readPolicy b = none := by
  rw [readPolicy, if_neg h.1, if_neg h.2]

theorem policy_byte {b : Byte} (h : b = 0 ∨ b = 1) : (if b = 0 then Policy.halt else .brake).byte = b := by
  rcases h with rfl | rfl <;> rfl

/-- The payload of Configure Protection. -/
def protectionPayload (a : AxisId) (limit : Nat) (p1 p2 p3 p4 p5 p6 keep flags : Byte) : List Byte :=
  axisByte a :: leBytes 2 limit ++ [p1, p2, p3, p4, p5, p6, keep, flags]

/-- The settings that bytes in their values carry (R130, R181). -/
def protectionOf (limit : Nat) (p1 p2 p3 p4 p5 p6 keep flags : Byte) : Protection :=
  ⟨limit, if p1 = 0 then .halt else .brake, if p2 = 0 then .halt else .brake, if p3 = 0 then .halt else .brake,
    if p4 = 0 then .halt else .brake, if p5 = 0 then .halt else .brake, if p6 = 0 then .halt else .brake,
    flags.getLsbD 0, flags.getLsbD 1, decide (keep = 0)⟩

variable {limit : Nat} {p1 p2 p3 p4 p5 p6 keep flags : Byte}

theorem readProtection_good (bound : limit < 65536) (good : ∀ p ∈ [p1, p2, p3, p4, p5, p6, keep], p = 0 ∨ p = 1) :
    readProtection (protectionPayload a limit p1 p2 p3 p4 p5 p6 keep flags)
      = some (protectionOf limit p1 p2 p3 p4 p5 p6 keep flags) := by
  simp only [List.forall_mem_cons] at good
  obtain ⟨g1, g2, g3, g4, g5, g6, g7, -⟩ := good
  have number : field (protectionPayload a limit p1 p2 p3 p4 p5 p6 keep flags) 1 2 = limit := field_of_drop bound rfl
  have kept : (!decide (keep = 1)) = decide (keep = 0) := by rcases g7 with rfl | rfl <;> rfl
  rw [readProtection, number]
  simp only [protectionPayload, leBytes, List.cons_append, List.nil_append, byteAt, List.getD_cons_succ, List.getD_cons_zero,
    readPolicy_of_mem g1, readPolicy_of_mem g2, readPolicy_of_mem g3, readPolicy_of_mem g4, readPolicy_of_mem g5, readPolicy_of_mem g6,
    twoValued_of_mem g7, kept]
  rfl

/-- Settings with a byte out of its values are not read. -/
theorem readProtection_bad (bad : ∃ p ∈ [p1, p2, p3, p4, p5, p6, keep], p ≠ 0 ∧ p ≠ 1) :
    readProtection (protectionPayload a limit p1 p2 p3 p4 p5 p6 keep flags) = none := by
  have policies : ∀ {b : Byte} {q : Policy}, readPolicy b = some q → b = 0 ∨ b = 1 := fun {b q} h => by
    by_contra other
    rw [readPolicy_of_ne (not_or.mp other)] at h
    cases h
  have flagsRead : ∀ {b : Byte} {q : Bool}, twoValued b = some q → b = 0 ∨ b = 1 := fun {b q} h => by
    by_contra other
    rw [twoValued_of_ne (not_or.mp other).1 (not_or.mp other).2] at h
    cases h
  by_contra some
  obtain ⟨x, read⟩ := Option.ne_none_iff_exists'.mp some
  unfold readProtection at read
  split at read
  · next e1 e2 e3 e4 e5 e6 e7 =>
    obtain ⟨p, mem, no⟩ := bad
    have good : ∀ p ∈ [p1, p2, p3, p4, p5, p6, keep], p = 0 ∨ p = 1 := by
      simp only [List.forall_mem_cons]
      exact ⟨policies e1, policies e2, policies e3, policies e4, policies e5, policies e6, flagsRead e7, by simp⟩
    rcases good p mem with e | e
    · exact no.1 e
    · exact no.2 e
  · cases read

theorem protectionOf_bytes (good : ∀ p ∈ [p1, p2, p3, p4, p5, p6, keep], p = 0 ∨ p = 1) :
    (protectionOf limit p1 p2 p3 p4 p5 p6 keep flags).bytes = leBytes 2 limit ++ [p1, p2, p3, p4, p5, p6, keep, flags &&& 3] := by
  simp only [List.forall_mem_cons] at good
  obtain ⟨g1, g2, g3, g4, g5, g6, g7, -⟩ := good
  have kept : boolByte (!decide (keep = 0)) = keep := by rcases g7 with rfl | rfl <;> rfl
  simp only [Protection.bytes, protectionOf, policy_byte g1, policy_byte g2, policy_byte g3, policy_byte g4, policy_byte g5,
    policy_byte g6, kept, flagBits_eq_and]

end QueueRequests

/-- Settles O22. -/
theorem configureQueueAndProtectionSetAllOrNone : Obligations.ConfigureQueueAndProtectionSetAllOrNone := by
  refine ⟨fun s f rest a q th offered code payload => ?_, fun s f rest a L p1 p2 p3 p4 p5 p6 keep flags offered code payload bound => ?_⟩
  · have length : f.payload.length = 3 := by simp [payload]
    have byte : byteAt f.payload 0 = axisByte a := by simp [payload, byteAt]
    have quota : byteAt f.payload 1 = q := by simp [payload, byteAt]
    have threshold : byteAt f.payload 2 = th := by simp [payload, byteAt]
    refine ⟨fun low high small fits => ?_, fun bad => ?_⟩
    · refine congrArg Host.Outcome.next (State.takeRequest_setAxis offered code length byte fun l => ?_)
      have inRange : ¬((decide (q.toNat = 0) || decide (128 < q.toNat)) = true) := by simp; omega
      rw [quota, threshold]
      refine (if_neg inRange).trans ((if_neg (Nat.not_lt.mpr small)).trans ((if_neg (Nat.not_lt.mpr fits)).trans ?_))
      rw [BitVec.ofNat_toNat, BitVec.ofNat_toNat, BitVec.setWidth_eq, BitVec.setWidth_eq]
      rfl
    · refine congrArg Host.Outcome.next (State.takeRequest_axis_unchanged offered code length byte ?_)
      rw [quota, threshold]
      dsimp only
      split
      · rfl
      · split
        · rfl
        · next inRange small =>
          refine if_pos ?_
          simp only [Bool.or_eq_true, decide_eq_true_eq] at inRange
          rw [State.axis_takeFrame]
          omega
  · have shape : f.payload = protectionPayload a L p1 p2 p3 p4 p5 p6 keep flags := payload
    have length : f.payload.length = 11 := by simp [payload]
    have byte : byteAt f.payload 0 = axisByte a := by simp [payload, byteAt]
    refine ⟨fun good => congrArg Host.Outcome.next (State.takeRequest_setAxis offered code length byte fun l => ?_),
      fun bad => congrArg Host.Outcome.next (State.takeRequest_axis_unchanged offered code length byte ?_)⟩
    · rw [shape, readProtection_good bound good]
      dsimp only
      rw [protectionOf_bytes good]
      rfl
    · rw [shape, readProtection_bad bad]
      rfl

/-- Settles O23. -/
theorem enableAndDisableAxis : Obligations.EnableAndDisableAxis := by
  refine ⟨fun x => ?_, fun s f rest a offered payload => ?_⟩
  · rw [Axis.enaPin, beq_iff_eq, Bool.eq_iff_iff]
  have length : f.payload.length = 1 := by simp [payload]
  have byte : byteAt f.payload 0 = axisByte a := by simp [payload, byteAt]
  refine ⟨fun code off ready => ?_, fun code off active => ?_, fun code ready => ?_⟩
  · refine congrArg Host.Outcome.next (State.takeRequest_setAxis offered code length byte fun l => ?_)
    exact (if_neg (not_not.mpr off)).trans (if_neg (Bool.not_eq_true _ ▸ ready))
  · refine congrArg Host.Outcome.next (State.takeRequest_axis_unchanged offered code length byte ?_)
    rw [State.axis_takeFrame]
    exact (if_neg (not_not.mpr off)).trans (if_pos active)
  · exact congrArg Host.Outcome.next (State.takeRequest_setAxis offered code length byte fun l => if_neg (not_not.mpr ready))

/-- The condition that refuses Clear Fault, beyond the state. -/
theorem clearFault_causes (s : State) (x : Axis) :
    (s.tripActive && x.protection.tripEnable) = true ↔ s.trip.filtered = false ∧ x.protection.tripEnable = true := by
  simp [State.tripActive]

/-- Settles O31. -/
theorem clearFaultReturnsToReady : Obligations.ClearFaultReturnsToReady := by
  rintro s f rest a x r flags rfl offered code payload st record
  have length : f.payload.length = 2 := by simp [payload]
  have byte : byteAt f.payload 0 = axisByte a := by simp [payload, byteAt]
  have flag' : flag (byteAt f.payload 1) 0 = flags.getLsbD 0 := by simp [payload, byteAt, flag]
  refine ⟨fun active => congrArg Host.Outcome.next (State.takeRequest_axis_unchanged offered code length byte ?_), fun dflt trip => ?_⟩
  · refine (if_neg (not_not.mpr (by simpa using st))).trans ?_
    simp only [State.axis_takeFrame]
    split
    · rfl
    · next inactive =>
      exact if_pos ((clearFault_causes _ _).mpr (by simpa using active.resolve_left inactive))
  · have trip' : ¬((s.tripActive && (s.axis a).protection.tripEnable) = true) := by
      rw [clearFault_causes]
      rcases trip with e | e <;> simp [e]
    refine ⟨fun keep => ?_, fun flush => ?_⟩
    · refine congrArg Host.Outcome.next (State.takeRequest_setAxis offered code length byte fun l => ?_)
      refine (if_neg (not_not.mpr st)).trans ((if_neg (Bool.not_eq_true _ ▸ dflt)).trans ((if_neg trip').trans ?_))
      rw [flag', keep, State.axis_withLink, record]
      simp [AxisState.code, Status.code, Axis.depth, State.modAxis_eq]
    · have drop := (s.setAxis a { s.axis a with st := .ready, ena := true, faultRecord := none }).dropTail_spec a 0
      obtain ⟨touches, axis, pool, groups, reports⟩ := drop
      have moved := (s.touches_setAxis a { s.axis a with st := .ready, ena := true, faultRecord := none }).trans touches
      rw [State.axis_setAxis_self] at axis pool groups
      refine ⟨_, congrArg Host.Outcome.next (State.takeRequest_axis offered code length byte (fun l => ?_) moved.1), axis, moved.2,
        pool, groups, moved.1.answered_silent reports f rest _⟩
      refine (if_neg (not_not.mpr st)).trans ((if_neg (Bool.not_eq_true _ ▸ dflt)).trans ((if_neg trip').trans ?_))
      rw [flag', flush, State.axis_withLink, record]
      simp only [if_true, State.withLink_setAxis, State.withLink_dropTail, State.axis_withLink, State.modAxis_eq, axis]
      rfl

end Sys2Proof.Machine

/-!
PROOF. The line: numbers and flags in bytes (R180), the records and settings read back (R181, R182), and the frames of replies and reports
(R158, R179, R184).
-/

namespace Sys2Proof.Machine

/-! ## Numbers in bytes (R180) -/

section Numbers
variable {p : List Byte}

/-- A number of one byte more: the byte first, then the rest, also past the last byte of the payload. -/
theorem field_succ (p : List Byte) (i k : Nat) : field p i (k + 1) = (byteAt p i).toNat + 256 * field p (i + 1) k := by
  by_cases h : i < p.length
  · rw [field, List.drop_eq_getElem_cons h, List.take_succ_cons, leNat, byteAt, List.getD_eq_getElem _ _ h]
    rfl
  · have short := Nat.not_lt.mp h
    rw [field, List.drop_eq_nil_of_le short, byteAt, List.getD_eq_default _ _ short, field, List.drop_eq_nil_of_le (by omega)]
    simp [leNat]

theorem field_zero (p : List Byte) (i : Nat) : field p i 0 = 0 := by simp [field, leNat]

theorem field_one (p : List Byte) (i : Nat) : field p i 1 = (byteAt p i).toNat := by rw [field_succ, field_zero, Nat.mul_zero, Nat.add_zero]

theorem field_two (p : List Byte) (i : Nat) : field p i 2 = (byteAt p i).toNat + 256 * (byteAt p (i + 1)).toNat := by
  rw [field_succ, field_one]

theorem field_three (p : List Byte) (i : Nat) : field p i 3 = field p i 2 + 65536 * (byteAt p (i + 2)).toNat := by
  rw [field_succ, field_two p (i + 1), field_two, show i + 1 + 1 = i + 2 from rfl]
  omega

theorem field_four (p : List Byte) (i : Nat) : field p i 4 = field p i 3 + 16777216 * (byteAt p (i + 3)).toNat := by
  rw [field_succ, field_three p (i + 1), field_two p (i + 1), field_three, field_two, show i + 1 + 1 = i + 2 from rfl,
    show i + 1 + 2 = i + 3 from rfl]
  omega

/-- Bytes are those of the number they carry. -/
theorem leBytes_leNat (bs : List Byte) : leBytes bs.length (leNat bs) = bs := by
  induction bs with
  | nil => rfl
  | cons b bs ih =>
    have low : BitVec.ofNat 8 (b.toNat + 256 * leNat bs) = b := by
      apply BitVec.eq_of_toNat_eq
      rw [BitVec.toNat_ofNat]
      omega
    have high : (b.toNat + 256 * leNat bs) / 256 = leNat bs := by omega
    rw [List.length_cons, leNat, leBytes, low, high, ih]

theorem leBytes_field {i k : Nat} (h : i + k ≤ p.length) : leBytes k (field p i k) = (p.drop i).take k := by
  have length : ((p.drop i).take k).length = k := by
    rw [List.length_take, List.length_drop]
    omega
  calc leBytes k (field p i k) = leBytes ((p.drop i).take k).length (leNat ((p.drop i).take k)) := by rw [length, field]
    _ = (p.drop i).take k := leBytes_leNat _

theorem leBytes_two (n : Nat) : leBytes 2 n = [BitVec.ofNat 8 n, BitVec.ofNat 8 (n / 256)] := rfl

theorem leBytes_three (n : Nat) : leBytes 3 n = [BitVec.ofNat 8 n, BitVec.ofNat 8 (n / 256), BitVec.ofNat 8 (n / 65536)] := by
  simp [leBytes, Nat.div_div_eq_div_mul]

theorem leBytes_four (n : Nat) :
    leBytes 4 n = [BitVec.ofNat 8 n, BitVec.ofNat 8 (n / 256), BitVec.ofNat 8 (n / 65536), BitVec.ofNat 8 (n / 16777216)] := by
  simp [leBytes, Nat.div_div_eq_div_mul]

end Numbers

/-! ## Segment records (R182) -/

section SegmentRecords
variable {members : GroupId → BitVec 4} {a : AxisId} {r : List Byte} {body : SegBody} {gate : Option GroupId}

theorem flag_recordFlags (b : Bool) (gate : Option GroupId) :
    flag (recordFlags b gate) 0 = b ∧ flag (recordFlags b gate) 1 = gate.isSome
      ∧ ∀ g, gate = some g → (recordFlags b gate).toNat / 4 % 8 = g.val := by
  revert b gate
  decide

theorem recordGate_of_byte {b : Bool} (h : byteAt r 1 = recordFlags b gate) : recordGate r = gate := by
  obtain ⟨-, gated, index⟩ := flag_recordFlags b gate
  rw [← h] at gated index
  cases gate with
  | none => exact recordGate_of_clear gated
  | some g => exact recordGate_of_flag (index g rfl).symm gated

/-- A record with a valid body, gated on no group or on one that has the axis as a member, is read. -/
theorem readRecord_of_body (valid : recordBody r = .ok body) (gated : recordGate r = gate)
    (member : ∀ g, gate = some g → inSet (members g) a = true) :
    readRecord members a r = .ok ⟨BitVec.ofNat 16 (field r 2 2), gate, body⟩ := by
  rw [readRecord, valid, gated]
  cases gate with
  | none => rfl
  | some g =>
    have inside := member g rfl
    have defined : members g ≠ 0 := fun e => by simp [e, inSet] at inside
    simp only [if_neg defined, inside, Bool.not_true, Bool.false_eq_true, if_false]

theorem signed24_mod {n : Int} (low : -8388608 < n) (high : n < 8388608) : signed24 (n % 16777216).toNat = n := by
  unfold signed24
  split <;> omega

theorem rateInRange_of {n : Nat} (low : 16 ≤ n) (high : n ≤ 250000) : (!rateInRange n) = false := by
  rw [Bool.not_eq_false', rateInRange_iff]
  exact ⟨low, high⟩

/-- The option bits of a SEEK record. -/
theorem flag_seekOptions (n i t : Bool) :
    flag (flagBit 0 n ||| flagBit 1 i ||| flagBit 2 t) 0 = n ∧ flag (flagBit 0 n ||| flagBit 1 i ||| flagBit 2 t) 1 = i
      ∧ flag (flagBit 0 n ||| flagBit 1 i ||| flagBit 2 t) 2 = t := by
  revert n i t
  decide

/-- The record that carries a segment in its ranges: its length, its tag, its flags, and its body read back. -/
theorem Segment.bytes_read (seg : Segment) (range : seg.body.inRange) :
    seg.bytes.length = 14 ∧ field seg.bytes 2 2 = seg.tag.toNat ∧ (∃ b, byteAt seg.bytes 1 = recordFlags b seg.gate)
      ∧ recordBody seg.bytes = .ok seg.body := by
  obtain ⟨tag, gate, body⟩ := seg
  cases body with
  | move steps startRate endRate report =>
    obtain ⟨nonzero, small, low, high, low', high'⟩ := range
    refine ⟨rfl, field_of_drop tag.isLt rfl, ⟨report, rfl⟩, ?_⟩
    have steps' : field (Segment.bytes ⟨tag, gate, .move steps startRate endRate report⟩) 4 3 = (steps % 16777216).toNat :=
      field_of_drop (by omega) rfl
    have start' : field (Segment.bytes ⟨tag, gate, .move steps startRate endRate report⟩) 7 3 = startRate :=
      field_of_drop (by omega) rfl
    have last' : field (Segment.bytes ⟨tag, gate, .move steps startRate endRate report⟩) 10 3 = endRate :=
      field_of_drop (by omega) rfl
    have good : ¬((decide (steps = 0) || decide (Config.maxStepCount < steps.natAbs)) = true) := by
      rw [Bool.or_eq_true, decide_eq_true_eq, decide_eq_true_eq]
      exact not_or.mpr ⟨nonzero, Nat.not_lt.mpr small⟩
    have kind : byteAt (Segment.bytes ⟨tag, gate, .move steps startRate endRate report⟩) 0 = 1 := rfl
    have flag' : flag (byteAt (Segment.bytes ⟨tag, gate, .move steps startRate endRate report⟩) 1) 0 = report :=
      (flag_recordFlags report gate).1
    rw [recordBody, kind, if_pos rfl, steps', start', last', signed24_mod (by omega) (by omega)]
    dsimp only
    rw [if_neg good, rateInRange_of low high, rateInRange_of low' high', flag']
    rfl
  | dwell duration report =>
    obtain ⟨low, high⟩ := range
    refine ⟨rfl, field_of_drop tag.isLt rfl, ⟨report, rfl⟩, ?_⟩
    have duration' : field (Segment.bytes ⟨tag, gate, .dwell duration report⟩) 4 3 = duration := field_of_drop (by omega) rfl
    have flag' : flag (byteAt (Segment.bytes ⟨tag, gate, .dwell duration report⟩) 1) 0 = report := (flag_recordFlags report gate).1
    have kind : byteAt (Segment.bytes ⟨tag, gate, .dwell duration report⟩) 0 = 2 := rfl
    rw [recordBody, kind, if_neg (by decide), if_pos rfl, duration', if_neg (by omega), flag']
  | seek dir rate maxSteps source edge =>
    obtain ⟨low, high, some, few⟩ := range
    refine ⟨rfl, field_of_drop tag.isLt rfl, ⟨false, rfl⟩, ?_⟩
    have rate' : field (Segment.bytes ⟨tag, gate, .seek dir rate maxSteps source edge⟩) 5 3 = rate := field_of_drop (by omega) rfl
    have steps' : field (Segment.bytes ⟨tag, gate, .seek dir rate maxSteps source edge⟩) 8 3 = maxSteps :=
      field_of_drop (by omega) rfl
    have good : ¬((decide (maxSteps = 0) || decide (Config.maxStepCount < maxSteps)) = true) := by
      rw [maxSteps_bad]
      omega
    have options : byteAt (Segment.bytes ⟨tag, gate, .seek dir rate maxSteps source edge⟩) 4 =
      flagBit 0 (dir = .negative) ||| flagBit 1 (source = .index) ||| flagBit 2 (edge = .toInactive) := rfl
    obtain ⟨negative, index, inactive⟩ := flag_seekOptions (dir = .negative) (source = .index) (edge = .toInactive)
    have kind : byteAt (Segment.bytes ⟨tag, gate, .seek dir rate maxSteps source edge⟩) 0 = 3 := rfl
    rw [recordBody, kind, if_neg (by decide), if_neg (by decide), if_pos rfl, rate', steps', options]
    dsimp only
    rw [if_neg good, rateInRange_of low high, negative, index, inactive]
    cases dir <;> cases source <;> cases edge <;> rfl
  | mark => exact ⟨rfl, field_of_drop tag.isLt rfl, ⟨false, rfl⟩, rfl⟩

end SegmentRecords

/-! ## Axis settings (R181) -/

theorem toNat_ofNat_of_lt {n : Nat} (h : n < 256) : (BitVec.ofNat 8 n).toNat = n := by
  rw [BitVec.toNat_ofNat]
  omega

theorem boolByte_eq (b : Bool) : boolByte b = if b then 1 else 0 := by cases b <;> rfl

theorem twoValued_boolByte (b : Bool) : twoValued (boolByte b) = some b := by cases b <;> rfl

/-- Where each setting stands in the payload of Configure Axis. -/
theorem settings_placed (a : AxisId) {set : AxisSettings} {p : List Byte} (wf : set.wf) (e : p = axisByte a :: set.bytes) :
    (byteAt p 0).toNat = a.val ∧ field p 1 2 = set.baseRate ∧ field p 3 2 = set.decrement ∧ (byteAt p 5).toNat = set.pulseWidth
    ∧ (byteAt p 6).toNat = set.dirLead ∧ byteAt p 7 = (if set.dirInverted then 1 else 0)
    ∧ byteAt p 8 = (if set.enaActiveHigh then 1 else 0) ∧ byteAt p 9 = (if set.limitActiveHigh then 1 else 0)
    ∧ byteAt p 10 = (if set.homeActiveHigh then 1 else 0) ∧ byteAt p 11 = (if set.dfltActiveHigh then 1 else 0)
    ∧ (byteAt p 12).toNat = set.switchFilter ∧ (byteAt p 13).toNat = set.encoderFilter
    ∧ byteAt p 14 = (if set.encoderEnable then 1 else 0) ∧ (byteAt p 15).toNat = set.countsPerStep
    ∧ byteAt p 16 = (if set.indexReports then 1 else 0) := by
  obtain ⟨-, base, -, decrement, -, pulse, -, lead, switch, encoder, -, counts⟩ := wf
  subst e
  refine ⟨toNat_axisByte a, field_of_drop (by omega) rfl, field_of_drop (by omega) rfl, ?_, ?_, boolByte_eq _, boolByte_eq _,
    boolByte_eq _, boolByte_eq _, boolByte_eq _, ?_, ?_, boolByte_eq _, ?_, boolByte_eq _⟩
  · exact toNat_ofNat_of_lt (Nat.lt_of_le_of_lt pulse (by decide))
  · exact toNat_ofNat_of_lt (Nat.lt_of_le_of_lt lead (by decide))
  · exact toNat_ofNat_of_lt (Nat.lt_of_le_of_lt switch (by decide))
  · exact toNat_ofNat_of_lt (Nat.lt_of_le_of_lt encoder (by decide))
  · exact toNat_ofNat_of_lt (Nat.lt_of_le_of_lt counts (by decide))

theorem inRange_iff {lo hi n : Nat} : inRange lo hi n = true ↔ lo ≤ n ∧ n ≤ hi := by
  rw [inRange, Bool.and_eq_true, decide_eq_true_eq, decide_eq_true_eq]

theorem readAxisSettings_bytes (a : AxisId) {set : AxisSettings} (wf : set.wf) :
    readAxisSettings (axisByte a :: set.bytes) = some set := by
  obtain ⟨-, base, decrement, pulse, lead, inverted, ena, limit, home, dflt, switch, encoder, enable, counts, index⟩ :=
    settings_placed a wf rfl
  have bounds := wf
  obtain ⟨b1, b2, d1, d2, p1, p2, l1, l2, sw, en, c1, c2⟩ := bounds
  unfold readAxisSettings
  simp only [field_one, base, decrement, pulse, lead, switch, encoder, counts, inverted, ena, limit, home, dflt, enable, index,
    ← boolByte_eq, twoValued_boolByte]
  rw [if_pos (by simp only [Bool.and_eq_true, inRange_iff]; omega)]

/-- Settles O7. -/
theorem recordsAndSettingsReadBack : Obligations.RecordsAndSettingsReadBack := by
  refine ⟨fun members a seg range member => ?_, fun a set wf => ⟨rfl, readAxisSettings_bytes a wf⟩, fun a set p wf e => settings_placed a wf e,
    fun p i => ⟨List.getD_eq_getElem?_getD, field_two p i, field_three p i, field_four p i⟩⟩
  obtain ⟨length, tag, ⟨b, flags⟩, body⟩ := seg.bytes_read range
  refine ⟨length, (readRecord_of_body body (recordGate_of_byte flags) member).trans ?_⟩
  rw [tag, BitVec.ofNat_toNat, BitVec.setWidth_eq]

end Sys2Proof.Machine

/-!
PROOF. Frames and replies, field by field: the layout of every frame (R179, R184), Configure Axis (R168, R169), Read Axis Status (R176).
-/

namespace Sys2Proof.Machine

/-! ## Frames -/

/-- A frame is its lead byte, its checked bytes and their check value. -/
theorem frameBytes_layout (kind seq code : Byte) (payload : List Byte) : ∃ lo hi : Byte,
    frameBytes kind seq code payload =
      [0x96, BitVec.ofNat 8 (payload.length + 3), kind, seq, code] ++ payload ++ [lo, hi]
    ∧ lo.toNat + 256 * hi.toNat = (crc16 ([BitVec.ofNat 8 (payload.length + 3), kind, seq, code] ++ payload)).toNat := by
  obtain ⟨lo, hi, bytes, value⟩ := leNat_bytes16 (crc16 ([BitVec.ofNat 8 (payload.length + 3), kind, seq, code] ++ payload))
  refine ⟨lo, hi, ?_, value⟩
  rw [← bytes]
  rfl

theorem ReportBody.kindCode_inRange (b : ReportBody) : 1 ≤ b.kindCode ∧ b.kindCode ≤ 12 := by
  cases b <;> simp [ReportBody.kindCode]

/-- The length of the fields of each report kind. -/
theorem ReportBody.length_fieldBytes (b : ReportBody) :
    b.fieldBytes.length = [0, 2, 7, 7, 11, 16, 2, 6, 17, 3, 4, 7, 4].getD b.kindCode 0 := by cases b <;> rfl

theorem bytes32?_eq (o : Option Word32) : bytes32? o = leBytes 4 ((o.map (·.toNat)).getD 0) := by cases o <;> rfl

theorem bytes16?_eq (o : Option Word16) : bytes16? o = leBytes 2 ((o.map (·.toNat)).getD 0) := by cases o <;> rfl

theorem setWidth_eq_ofNat (arrived : BitVec 4) : arrived.setWidth 8 = BitVec.ofNat 8 arrived.toNat := by
  revert arrived
  decide

/-- The check value of the digits 1 to 9 (R179). -/
theorem crc16_digits : crc16 [0x31, 0x32, 0x33, 0x34, 0x35, 0x36, 0x37, 0x38, 0x39] = 0x29B1#16 := by decide +kernel

/-- Settles O8. -/
theorem framesHaveTheirLayout : Obligations.FramesHaveTheirLayout := by
  refine ⟨crc16_digits, fun r _ => frameBytes_layout 2 r.seq r.code r.payload, fun e payload shape => ?_, fun cause n => ⟨rfl, ?_⟩,
    fun a tag p e fe n A B hA hB => ?_, fun g round arrived lost kinds => ⟨⟨rfl, rfl, rfl⟩, rfl, ?_, rfl⟩,
    fun n => ⟨leBytes_two n, leBytes_three n, leBytes_four n⟩⟩
  · subst shape
    obtain ⟨lo, hi, frame, value⟩ := frameBytes_layout 3 0 (BitVec.ofNat 8 e.body.kindCode)
      (leBytes 2 e.seq.toNat ++ leBytes 4 e.time.toNat ++ e.body.fieldBytes)
    exact ⟨lo, hi, frame, value, e.body.kindCode_inRange.1, e.body.kindCode_inRange.2, e.body.length_fieldBytes⟩
  · cases cause <;> rfl
  · subst hA hB
    refine ⟨⟨rfl, rfl, rfl, rfl, rfl⟩, rfl, fun reason => ⟨rfl, ?_⟩, rfl, fun found p? e? => ⟨rfl, ?_⟩, rfl, rfl,
      fun cause tag? => ⟨rfl, ?_⟩, rfl⟩
    · cases reason <;> rfl
    · rw [ReportBody.fieldBytes, bytes32?_eq, bytes32?_eq]
      cases found <;> cases p? <;> cases e? <;> rfl
    · rw [ReportBody.fieldBytes, bytes16?_eq]
      cases cause <;> cases tag? <;> rfl
  · rw [ReportBody.fieldBytes, setWidth_eq_ofNat]
    rfl

/-! ## Configure Axis -/

section ConfigureAxis
variable {p : List Byte} {set : AxisSettings}

theorem twoValued_eq_none_iff (b : Byte) : twoValued b = none ↔ b ≠ 0 ∧ b ≠ 1 := by
  revert b
  decide

theorem boolByte_of_twoValued {b : Byte} {v : Bool} (h : twoValued b = some v) : boolByte v = b := by
  revert b v
  decide

theorem byte_eq_zero_iff (b : Byte) : b = 0 ↔ b.toNat = 0 := by
  rw [← BitVec.toNat_inj]
  rfl

/-- The numbers of a block lie in their values. -/
def settingsInRange (p : List Byte) : Bool :=
  inRange 16 50000 (field p 1 2) && inRange 1 65535 (field p 3 2) && inRange 1 63 (field p 5 1) && inRange 1 63 (field p 6 1)
    && inRange 0 7 (field p 12 1) && inRange 0 3 (field p 13 1) && inRange 1 64 (field p 15 1)

theorem settingsInRange_eq_false_iff (p : List Byte) :
    settingsInRange p = false ↔ field p 1 2 < 16 ∨ 50000 < field p 1 2 ∨ field p 3 2 = 0 ∨ byteAt p 5 = 0 ∨ 63 < (byteAt p 5).toNat
      ∨ byteAt p 6 = 0 ∨ 63 < (byteAt p 6).toNat ∨ 7 < (byteAt p 12).toNat ∨ 3 < (byteAt p 13).toNat ∨ byteAt p 15 = 0
      ∨ 64 < (byteAt p 15).toNat := by
  have small := field_lt p 3 2
  rw [← Bool.not_eq_true, settingsInRange]
  simp only [Bool.and_eq_true, inRange_iff, field_one, byte_eq_zero_iff]
  omega

/-- What a block that is read holds: its numbers in their values, its flags 0 or 1. -/
theorem readAxisSettings_eq_some_iff :
    readAxisSettings p = some set ↔ settingsInRange p = true ∧ set.baseRate = field p 1 2 ∧ set.decrement = field p 3 2
      ∧ set.pulseWidth = field p 5 1 ∧ set.dirLead = field p 6 1 ∧ twoValued (byteAt p 7) = some set.dirInverted
      ∧ twoValued (byteAt p 8) = some set.enaActiveHigh ∧ twoValued (byteAt p 9) = some set.limitActiveHigh
      ∧ twoValued (byteAt p 10) = some set.homeActiveHigh ∧ twoValued (byteAt p 11) = some set.dfltActiveHigh
      ∧ set.switchFilter = field p 12 1 ∧ set.encoderFilter = field p 13 1 ∧ twoValued (byteAt p 14) = some set.encoderEnable
      ∧ set.countsPerStep = field p 15 1 ∧ twoValued (byteAt p 16) = some set.indexReports := by
  unfold readAxisSettings
  rw [← settingsInRange]
  constructor
  · intro h
    split at h
    · next good =>
      split at h
      · next e1 e2 e3 e4 e5 e6 e7 =>
        cases h
        exact ⟨good, rfl, rfl, rfl, rfl, e1, e2, e3, e4, e5, rfl, rfl, e6, rfl, e7⟩
      · cases h
    · cases h
  · rintro ⟨good, base, decrement, pulse, lead, inverted, ena, limit, home, dflt, switch, encoder, enable, counts, index⟩
    simp only [good, if_true, inverted, ena, limit, home, dflt, enable, index, ← base, ← decrement, ← pulse, ← lead, ← switch,
      ← encoder, ← counts]

theorem readAxisSettings_eq_none_iff :
    readAxisSettings p = none ↔
      settingsInRange p = false ∨ ∃ i ∈ ([7, 8, 9, 10, 11, 14, 16] : List Nat), byteAt p i ≠ 0 ∧ byteAt p i ≠ 1 := by
  simp only [← twoValued_eq_none_iff]
  unfold readAxisSettings
  rw [← settingsInRange]
  cases settingsInRange p
  · simp
  · simp only [if_true, Bool.true_eq_false, false_or, List.mem_cons, List.not_mem_nil, or_false, exists_eq_or_imp, exists_eq_left]
    split
    · next e1 e2 e3 e4 e5 e6 e7 => simp [e1, e2, e3, e4, e5, e6, e7]
    · next none =>
      refine iff_of_true rfl ?_
      by_contra all
      simp only [not_or, Option.ne_none_iff_exists', ← ne_eq] at all
      obtain ⟨⟨v1, e1⟩, ⟨v2, e2⟩, ⟨v3, e3⟩, ⟨v4, e4⟩, ⟨v5, e5⟩, ⟨v6, e6⟩, ⟨v7, e7⟩⟩ := all
      exact none _ _ _ _ _ _ _ e1 e2 e3 e4 e5 e6 e7

theorem ofNat_field_one (p : List Byte) (i : Nat) : BitVec.ofNat 8 (field p i 1) = byteAt p i := by
  rw [field_one, BitVec.ofNat_toNat, BitVec.setWidth_eq]

theorem drop_slice {i : Nat} (k : Nat) (h : i + k ≤ p.length) : p.drop i = leBytes k (field p i k) ++ p.drop (i + k) := by
  rw [leBytes_field h, ← List.drop_drop, List.take_append_drop]

theorem drop_byte {i : Nat} (h : i < p.length) : p.drop i = byteAt p i :: p.drop (i + 1) := by
  rw [List.drop_eq_getElem_cons h, byteAt, List.getD_eq_getElem _ _ h]

/-- A block that is read is sent back as it came. -/
theorem readAxisSettings_echo (length : p.length = 17) (h : readAxisSettings p = some set) : set.bytes = p.drop 1 := by
  obtain ⟨-, base, decrement, pulse, lead, inverted, ena, limit, home, dflt, switch, encoder, enable, counts, index⟩ :=
    readAxisSettings_eq_some_iff.mp h
  rw [drop_slice 2 (by omega), drop_slice (i := 3) 2 (by omega), drop_byte (i := 5) (by omega), drop_byte (i := 6) (by omega),
    drop_byte (i := 7) (by omega), drop_byte (i := 8) (by omega), drop_byte (i := 9) (by omega), drop_byte (i := 10) (by omega),
    drop_byte (i := 11) (by omega), drop_byte (i := 12) (by omega), drop_byte (i := 13) (by omega), drop_byte (i := 14) (by omega),
    drop_byte (i := 15) (by omega), drop_byte (i := 16) (by omega), List.drop_eq_nil_of_le (i := 17) (by omega)]
  simp only [AxisSettings.bytes, base, decrement, pulse, lead, switch, encoder, counts, ofNat_field_one,
    boolByte_of_twoValued inverted, boolByte_of_twoValued ena, boolByte_of_twoValued limit, boolByte_of_twoValued home,
    boolByte_of_twoValued dflt, boolByte_of_twoValued enable, boolByte_of_twoValued index, List.append_assoc]

end ConfigureAxis

/-- One line under a filter setting that may have changed. -/
theorem InputLine.retime_unless (clock filterTime old new : Nat) (l : InputLine) :
    (if new = old then l else l.retime clock filterTime) =
      { l with due := l.due.map fun t => if clock < t ∧ new ≠ old then clock + filterTime else t } := by
  by_cases same : new = old
  · simp [same]
  · simp [same, InputLine.retime]

/-- An input still being timed is timed again when the filter setting of its kind changes (R169). -/
theorem AxisInputs.line_retime (clock : Nat) (old new : AxisSettings) (x : AxisInputs) (i : AxisInput) :
    (x.retime clock old new).line i = { x.line i with
      due := (x.line i).due.map fun t =>
        if clock < t ∧ (i ∈ ([.limp, .limn, .home, .dflt] : List AxisInput) ∧ new.switchFilter ≠ old.switchFilter
            ∨ i ∈ ([.enca, .encb, .enci] : List AxisInput) ∧ new.encoderFilter ≠ old.encoderFilter)
        then clock + new.filterTime i else t } := by
  have switch : i ∈ ([.limp, .limn, .home, .dflt] : List AxisInput) ∨ i ∈ ([.enca, .encb, .enci] : List AxisInput) := by
    cases i <;> simp
  rcases switch with sw | en
  · have line : (x.retime clock old new).line i =
        if new.switchFilter = old.switchFilter then x.line i else (x.line i).retime clock (new.filterTime i) := by
      cases i <;> first | rfl | simp at sw
    have other : i ∉ ([.enca, .encb, .enci] : List AxisInput) := by revert sw; cases i <;> simp
    simp only [line, InputLine.retime_unless, sw, other, true_and, false_and, or_false]
  · have line : (x.retime clock old new).line i =
        if new.encoderFilter = old.encoderFilter then x.line i else (x.line i).retime clock (new.filterTime i) := by
      cases i <;> first | rfl | simp at en
    have other : i ∉ ([.limp, .limn, .home, .dflt] : List AxisInput) := by revert en; cases i <;> simp
    simp only [line, InputLine.retime_unless, en, other, true_and, false_and, false_or]

/-- A change of the filter settings aside, the inputs stay. -/
theorem AxisInputs.retime_of_same {clock : Nat} {old new : AxisSettings} (switch : new.switchFilter = old.switchFilter)
    (encoder : new.encoderFilter = old.encoderFilter) (x : AxisInputs) : x.retime clock old new = x := by
  simp [AxisInputs.retime, switch, encoder]

theorem Axis.dirPin_iff (x : Axis) : x.dirPin = true ↔ (x.output.dirShown = .positive ↔ x.settings.dirInverted = false) := by
  cases inverted : x.settings.dirInverted <;> cases shown : x.output.dirShown <;> simp [Axis.dirPin, inverted, shown]

theorem Axis.quadAfter_eq (x : Axis) (enable : Bool) :
    x.quadAfter enable = if enable = false then none
      else if x.settings.encoderEnable = true then x.encoder.quad else some (x.inputs.enca.filtered, x.inputs.encb.filtered) := by
  cases enable <;> rfl

/-- What Configure Axis answers in OFF to a block that it reads. -/
theorem execConfigureAxis_set {s : State} {f : Frame} {rest : List Frame} {a : AxisId} {set : AxisSettings} (offered : s.offers f rest)
    (code : f.code = 0x60) (length : f.payload.length = 17) (byte : byteAt f.payload 0 = axisByte a)
    (read : readAxisSettings f.payload = some set) (off : (s.axis a).st = .off) :
    exec .configureAxis s = .next ((s.setAxis a ((s.axis a).configure s.clock set)).answered f rest (0 :: set.bytes)) := by
  refine congrArg Host.Outcome.next (State.takeRequest_setAxis offered code length byte fun l => ?_)
  rw [read]
  exact if_neg (not_not.mpr off)

/-- Settles O41. -/
theorem configureAxisSetsAllOrNone : Obligations.ConfigureAxisSetsAllOrNone := by
  refine ⟨fun p length => ⟨?_, fun set => readAxisSettings_echo length⟩, Axis.dirPin_iff, ?_⟩
  · rw [readAxisSettings_eq_none_iff, settingsInRange_eq_false_iff]
    simp only [or_assoc]
  rintro s f rest a x rfl offered code length byte
  refine ⟨fun set read off switch encoder => ?_, fun set read off => ?_, fun unread => ?_⟩
  · rw [execConfigureAxis_set offered code length byte read off, Axis.configure, AxisInputs.retime_of_same switch encoder,
      Axis.quadAfter_eq]
    rfl
  · refine ⟨_, execConfigureAxis_set offered code length byte read off, ?_, fun b n => State.axis_setAxis_ne _ _ n, fun i => ?_, rfl⟩
    · rw [State.axis_answered, State.axis_setAxis_self, Axis.configure, Axis.quadAfter_eq]
      rfl
    · rw [State.axis_answered, State.axis_setAxis_self]
      exact AxisInputs.line_retime _ _ _ _ i
  · refine congrArg Host.Outcome.next (State.takeRequest_axis_unchanged offered code length byte ?_)
    rw [unread]
    rfl

end Sys2Proof.Machine

/-!
PROOF. Read Axis Status, field by field (R176, R183): the reply is five blocks, each read at its place.
-/

namespace Sys2Proof.Machine

/-! ## Flag bytes -/

theorem getLsbD_flagBit (b : Bool) {i k : Nat} (hi : i < 8) : (flagBit k b).getLsbD i = (b && decide (i = k)) := by
  cases b
  · simp [flagBit]
  · rw [flagBit, if_pos rfl, BitVec.getLsbD_shiftLeft, BitVec.getLsbD_one, Bool.true_and, Bool.eq_iff_iff]
    simp only [Bool.and_eq_true, decide_eq_true_eq, Bool.not_eq_true', decide_eq_false_iff_not]
    omega

/-- The bits of a byte made of eight flags. -/
theorem getLsbD_flags (b0 b1 b2 b3 b4 b5 b6 b7 : Bool) {i : Nat} (h : i < 8) :
    (flagBit 0 b0 ||| flagBit 1 b1 ||| flagBit 2 b2 ||| flagBit 3 b3 ||| flagBit 4 b4 ||| flagBit 5 b5 ||| flagBit 6 b6
      ||| flagBit 7 b7).getLsbD i = [b0, b1, b2, b3, b4, b5, b6, b7].getD i false := by
  simp only [BitVec.getLsbD_or, getLsbD_flagBit _ h]
  interval_cases i <;> simp

/-- A number in fewer bytes than it needs is carried without its high part. -/
theorem leNat_leBytes_mod (k n : Nat) : leNat (leBytes k n) = n % 256 ^ k := by
  induction k generalizing n with
  | zero => simp [leBytes, leNat, Nat.mod_one]
  | succ k ih =>
    rw [leBytes, leNat, ih, BitVec.toNat_ofNat, Nat.pow_succ' (n := k)]
    exact (Nat.mod_mul (a := 256)).symm

theorem field_of_drop_mod {p post : List Byte} {i k m : Nat} (e : p.drop i = leBytes k m ++ post) : field p i k = m % 256 ^ k := by
  rw [field, e, List.take_left' (length_leBytes k m), leNat_leBytes_mod]

/-! ## The blocks of the reply -/

/-- The status and the fields before the active segment, 27 bytes. -/
def State.statusHead (s : State) (a : AxisId) : List Byte :=
  let x := s.axis a
  0 :: bytes32 s.deviceTime ++ [x.st.code] ++ leBytes 3 x.rate ++ [x.lastDir.code] ++ bytes32 x.position
    ++ bytes32 x.encoder.position ++ bytes32 x.fe
    ++ [BitVec.ofNat 8 x.depth, BitVec.ofNat 8 x.quota, BitVec.ofNat 8 x.threshold, BitVec.ofNat 8 s.poolFree, x.presenceByte]

/-- The staged tag and the gate of the head, 3 bytes. -/
def Axis.statusNext (x : Axis) : List Byte := bytes16? (x.staged.map (·.tag)) ++ [(x.headGate.map groupByte).getD 0]

/-- The fields behind the fault record, 25 bytes. -/
def State.statusTail (s : State) (a : AxisId) : List Byte :=
  let x := s.axis a
  bytes32 x.encoder.indexPosition ++ bytes16 x.encoder.indexCount ++ leBytes 2 x.encoder.errorCount ++ [s.levelsByte a]
    ++ x.settings.bytes

section AxisStatus
variable {s : State} {a : AxisId} {p : List Byte}

theorem axisStatus_eq (s : State) (a : AxisId) :
    Status.ok.code :: s.axisStatus a = s.statusHead a ++ (activeBytes (s.axis a).ctx ++ ((s.axis a).statusNext
      ++ (faultBytes (s.axis a).faultRecord ++ s.statusTail a))) := by
  simp only [State.axisStatus, State.statusHead, Axis.statusNext, State.statusTail, List.append_assoc, List.cons_append,
    List.nil_append]
  rfl

theorem length_activeBytes (o : Option Ctx) : (activeBytes o).length = 10 := by cases o <;> rfl

theorem length_faultBytes (o : Option FaultRecord) : (faultBytes o).length = 21 := by cases o <;> rfl

/-- The blocks behind the head, each at its offset. -/
theorem axisStatus_drops (e : p = Status.ok.code :: s.axisStatus a) :
    p.length = 86
      ∧ p.drop 27 = activeBytes (s.axis a).ctx ++ ((s.axis a).statusNext ++ (faultBytes (s.axis a).faultRecord ++ s.statusTail a))
      ∧ p.drop 37 = (s.axis a).statusNext ++ (faultBytes (s.axis a).faultRecord ++ s.statusTail a)
      ∧ p.drop 40 = faultBytes (s.axis a).faultRecord ++ s.statusTail a ∧ p.drop 61 = s.statusTail a := by
  rw [axisStatus_eq] at e
  have head : (s.statusHead a).length = 27 := rfl
  have next : (s.axis a).statusNext.length = 3 := rfl
  have tail : (s.statusTail a).length = 25 := rfl
  have d27 := (congrArg (List.drop 27) e).trans (List.drop_left' head)
  have d37 := (List.drop_drop (i := 10) (j := 27) (l := p)).symm.trans
    ((congrArg (List.drop 10) d27).trans (List.drop_left' (length_activeBytes _)))
  have d40 := (List.drop_drop (i := 3) (j := 37) (l := p)).symm.trans ((congrArg (List.drop 3) d37).trans (List.drop_left' next))
  have d61 := (List.drop_drop (i := 21) (j := 40) (l := p)).symm.trans
    ((congrArg (List.drop 21) d40).trans (List.drop_left' (length_faultBytes _)))
  refine ⟨?_, d27, d37, d40, d61⟩
  simp only [e, List.length_append, head, next, tail, length_activeBytes, length_faultBytes]

/-- A field behind an offset. -/
theorem field_drop (p : List Byte) (i j k : Nat) : field p (i + j) k = field (p.drop i) j k := by rw [field, field, List.drop_drop]

theorem byteAt_drop (p : List Byte) (i j : Nat) : byteAt p (i + j) = byteAt (p.drop i) j := by
  simp [byteAt, List.getD_eq_getElem?_getD, List.getElem?_drop]

theorem Axis.staged_isSome (x : Axis) : x.staged.isSome = (x.ctx.isSome && decide (2 ≤ x.depth)) := by
  unfold Axis.staged Axis.depth
  cases x.ctx with
  | none => rfl
  | some c =>
    match x.queue with
    | [] => rfl
    | [_] => rfl
    | _ :: _ :: _ => simp

theorem Axis.headGate_eq_some_iff (x : Axis) (g : GroupId) : x.headGate = some g ↔ ∃ seg q, x.queue = seg :: q ∧ seg.gate = some g := by
  unfold Axis.headGate
  cases x.queue <;> simp

theorem getLsbD_presenceByte (x : Axis) {i : Nat} (h : i < 8) : x.presenceByte.getLsbD i =
    [x.ctx.isSome, x.ctx.any (fun c => c.seg.body.kindCode == 2), x.ctx.isSome && decide (2 ≤ x.depth), x.headGate.isSome,
      x.owedFlush, x.faultRecord.isSome, x.faultRecord.any (fun r => r.activeTag.isSome), false].getD i false := by
  rw [← x.staged_isSome, ← getLsbD_flags _ _ _ _ _ _ _ _ h]
  simp [Axis.presenceByte, presence, show flagBit 7 false = 0 from rfl]

theorem getLsbD_levelsByte (s : State) (a : AxisId) {i : Nat} (h : i < 8) : (s.levelsByte a).getLsbD i =
    [(s.axis a).inputActive .limp, (s.axis a).inputActive .limn, (s.axis a).inputActive .home, (s.axis a).inputActive .dflt,
      (s.axis a).inputs.enca.filtered, (s.axis a).inputs.encb.filtered, (s.axis a).inputs.enci.filtered,
      !s.trip.filtered].getD i false := getLsbD_flags _ _ _ _ _ _ _ _ h

/-- The fields before the active segment. -/
theorem statusHead_fields {post : List Byte} (e : p = s.statusHead a ++ post) :
    byteAt p 0 = 0 ∧ field p 1 4 = s.deviceTime.toNat ∧ byteAt p 5 = (s.axis a).st.code
      ∧ field p 6 3 = (s.axis a).rate % 16777216 ∧ byteAt p 9 = (s.axis a).lastDir.code ∧ field p 10 4 = (s.axis a).position.toNat
      ∧ field p 14 4 = (s.axis a).encoder.position.toNat ∧ field p 18 4 = (s.axis a).fe.toNat
      ∧ byteAt p 22 = BitVec.ofNat 8 (s.axis a).depth ∧ byteAt p 23 = BitVec.ofNat 8 (s.axis a).quota
      ∧ byteAt p 24 = BitVec.ofNat 8 (s.axis a).threshold ∧ byteAt p 25 = BitVec.ofNat 8 s.poolFree
      ∧ byteAt p 26 = (s.axis a).presenceByte := by
  subst e
  exact ⟨rfl, field_of_drop (BitVec.isLt _) rfl, rfl, field_of_drop_mod rfl, rfl, field_of_drop (BitVec.isLt _) rfl,
    field_of_drop (BitVec.isLt _) rfl, field_of_drop (BitVec.isLt _) rfl, rfl, rfl, rfl, rfl, rfl⟩

/-- The fields of the active segment. -/
theorem activeBytes_fields {c : Ctx} {post : List Byte} (e : p = activeBytes (some c) ++ post) :
    field p 0 2 = c.seg.tag.toNat ∧ byteAt p 2 = c.seg.body.kindCode ∧ byteAt p 3 = c.phase.code
      ∧ field p 4 3 = c.stepsDone % 16777216 ∧ field p 7 3 = c.dwellLeft % 16777216 := by
  subst e
  exact ⟨field_of_drop c.seg.tag.isLt rfl, rfl, rfl, field_of_drop_mod rfl, field_of_drop_mod rfl⟩

/-- The fields of the fault record. -/
theorem faultBytes_fields {r : FaultRecord} {post : List Byte} (e : p = faultBytes (some r) ++ post) :
    byteAt p 0 = BitVec.ofNat 8 r.first.code ∧ byteAt p 1 = r.additional
      ∧ field p 2 4 = r.time.toNat ∧ field p 6 4 = r.position.toNat ∧ field p 10 4 = r.encoder.toNat
      ∧ field p 14 4 = r.fe.toNat ∧ (∀ tag, r.activeTag = some tag → field p 18 2 = tag.toNat)
      ∧ (r.activeTag = none → field p 18 2 = 0) ∧ byteAt p 20 = r.stateAt.code := by
  subst e
  have tag' : field (faultBytes (some r) ++ post) 18 2 = (r.activeTag.getD 0).toNat := field_of_drop (BitVec.isLt _) rfl
  exact ⟨rfl, rfl, field_of_drop r.time.isLt rfl, field_of_drop r.position.isLt rfl, field_of_drop r.encoder.isLt rfl,
    field_of_drop r.fe.isLt rfl, fun tag h => by rw [tag', h]; rfl, fun h => by rw [tag', h]; rfl, rfl⟩

end AxisStatus

/-- Settles O42. -/
theorem readAxisStatusShowsTheAxis : Obligations.ReadAxisStatusShowsTheAxis := by
  refine ⟨⟨rfl, rfl, rfl, rfl, fun _ _ _ _ => rfl, fun _ _ => rfl, fun _ _ _ _ _ => rfl, rfl⟩, Axis.headGate_eq_some_iff, ?_⟩
  rintro s f rest a x rfl offered code payload
  have length : f.payload.length = 1 := by simp [payload]
  have byte : byteAt f.payload 0 = axisByte a := by simp [payload, byteAt]
  have answer : exec .readAxisStatus s = .next (s.answered f rest (Status.ok.code :: s.axisStatus a)) := by
    refine congrArg Host.Outcome.next (State.takeRequest_axis offered code length byte (fun l => ?_) (.refl s))
    rfl
  generalize e : Status.ok.code :: s.axisStatus a = p at answer
  obtain ⟨len, d27, d37, d40, d61⟩ := axisStatus_drops e.symm
  have next : (field p 37 2 = ((s.axis a).staged.map (·.tag.toNat)).getD 0)
      ∧ byteAt p 39 = ((s.axis a).headGate.map groupByte).getD 0 := by
    refine ⟨?_, (byteAt_drop p 37 2).trans (by rw [d37]; rfl)⟩
    rw [field_of_drop (BitVec.isLt (((s.axis a).staged.map (·.tag)).getD 0)) d37]
    cases (s.axis a).staged <;> rfl
  obtain ⟨ok, time, st, rate, dir, position, encoder, fe, depth, quota, threshold, pool, presence⟩ :=
    statusHead_fields (e.symm.trans (axisStatus_eq s a))
  refine ⟨p, answer, len, ok, time, st, rate, dir, position, encoder, fe, depth, quota, threshold, pool, fun i h => ?_, fun idle => ?_,
    fun c active => ?_, fun c h seg q active queue => ?_, fun few => ?_, fun g gated => ?_, fun ungated => ?_, fun clear => ?_,
    fun r record => ?_, ?_, ?_, ?_, fun i h => ?_, ?_⟩
  · rw [presence]
    exact getLsbD_presenceByte _ h
  · rw [d27, idle]
    rfl
  · rw [active] at d27
    rw [field_drop p 27 0, byteAt_drop p 27 2, byteAt_drop p 27 3, field_drop p 27 4, field_drop p 27 7]
    exact activeBytes_fields d27
  · rw [next.1, Axis.staged, active, queue]
    rfl
  · have none : (s.axis a).staged = none := by
      rw [← Option.not_isSome_iff_eq_none, Axis.staged_isSome, Bool.and_eq_true, decide_eq_true_eq]
      rcases few with idle | few
      · simp [idle]
      · exact fun h => absurd h.2 (Nat.not_le.mpr few)
    rw [next.1, none]
    rfl
  · rw [next.2, gated]
    rfl
  · rw [next.2, ungated]
    rfl
  · rw [d40, clear]
    rfl
  · rw [record] at d40
    rw [byteAt_drop p 40 0, byteAt_drop p 40 1, field_drop p 40 2, field_drop p 40 6, field_drop p 40 10, field_drop p 40 14,
      field_drop p 40 18, byteAt_drop p 40 20]
    exact faultBytes_fields d40
  · exact field_of_drop (BitVec.isLt _) d61
  · rw [field_drop p 61 4, d61]
    exact field_of_drop (BitVec.isLt (s.axis a).encoder.indexCount) rfl
  · rw [field_drop p 61 6, d61]
    exact field_of_drop_mod rfl
  · rw [byteAt_drop p 61 8, d61]
    exact getLsbD_levelsByte s a h
  · rw [← List.drop_drop (i := 9) (j := 61), d61]
    rfl

end Sys2Proof.Machine

/-!
PROOF. Groups and their status (R100, R101), the read requests (R151, R163, R177), and the requests of the Report Unit (R139, R143, R144,
R146, R147).
-/

namespace Sys2Proof.Machine

section LinkFreeReplies
variable {s t : State} {f : Frame} {rest : List Frame} {code : Byte} {n : Nat} {p : List Byte}

/-- A request whose handler neither reads nor changes the link: its work on the state itself, answered. -/
theorem State.takeRequest_length {h : Handler} (offered : s.offers f rest) (c : f.code = code) (length : f.payload.length = n)
    (e : ∀ l, h f.payload (s.withLink l) = (t.withLink l, p)) (k : t.link = s.link) (m : t.micros = s.micros) :
    s.takeRequest code (checkLength n h) = t.answered f rest p := by
  refine State.takeRequest_answered offered c ?_ k m
  rw [checkLength_of_eq length, s.takeFrame_withLink rest]
  exact e _

/-- A request of the right length that leaves everything as it is. -/
theorem State.takeRequest_length_unchanged {h : Handler} (offered : s.offers f rest) (c : f.code = code)
    (length : f.payload.length = n) (e : h f.payload (s.takeFrame rest) = (s.takeFrame rest, p)) :
    s.takeRequest code (checkLength n h) = s.answered f rest p :=
  State.takeRequest_of_unchanged offered c ((checkLength_of_eq length).trans e)

end LinkFreeReplies

/-! ## Groups -/

theorem setSize_eq (m : BitVec 4) : setSize m = (([0, 1, 2, 3] : List AxisId).filter (inSet m)).length := by
  revert m
  decide

theorem flagBit_zero (b : Bool) : flagBit 0 b = if b then 1 else 0 := by cases b <;> rfl

theorem flagBit_one (b : Bool) : flagBit 1 b = if b then 2 else 0 := by cases b <;> rfl

theorem setWidth_setWidth_set (m : BitVec 4) : (m.setWidth 8).setWidth 4 = m := by
  revert m
  decide

theorem State.timeLeft_eq (s : State) (timer : Option Nat) :
    s.timeLeft timer = match timer with
      | some t => max 1 ((t - s.micros + 999) / 1000)
      | none => 0 := by cases timer <;> rfl

/-- Settles O30. -/
theorem groupRequestsSetAndShowTheEntry : Obligations.GroupRequestsSetAndShowTheEntry := by
  refine ⟨fun m a => ⟨rfl, rfl, setSize_eq m⟩, fun s f rest g offered => ⟨fun m T flags code payload bound => ?_, fun code payload => ?_⟩⟩
  · have length : f.payload.length = 5 := by simp [payload]
    have byte : byteAt f.payload 0 = groupByte g := by simp [payload, byteAt]
    have members : (byteAt f.payload 1).setWidth 4 = m := by
      rw [show byteAt f.payload 1 = m.setWidth 8 by simp [payload, byteAt], setWidth_setWidth_set]
    have timeout : field f.payload 2 2 = T := field_of_drop bound (by rw [payload]; rfl)
    have report : flag (byteAt f.payload 4) 0 = flags.getLsbD 0 := by
      rw [show byteAt f.payload 4 = flags by simp [payload, byteAt, leBytes]]
      rfl
    refine ⟨fun many short free => ?_, fun bad => ?_, fun many short used => ?_⟩
    · refine congrArg Host.Outcome.next (State.takeRequest_length offered code length (fun l => ?_) rfl rfl)
      rw [onGroup_of_byte byte, members, timeout, report]
      refine (if_neg many).trans ((if_neg (Nat.not_lt.mpr short)).trans ((if_neg (not_not.mpr free)).trans ?_))
      rw [flagBit_zero]
      rfl
    · refine congrArg Host.Outcome.next (State.takeRequest_length_unchanged offered code length ?_)
      rw [onGroup_of_byte byte, members, timeout, report]
      dsimp only
      split
      · rfl
      · next many => exact if_pos (bad.resolve_left many)
    · refine congrArg Host.Outcome.next (State.takeRequest_length_unchanged offered code length ?_)
      rw [onGroup_of_byte byte, members, timeout, report]
      exact (if_neg many).trans ((if_neg (Nat.not_lt.mpr short)).trans (if_pos (by rw [State.group_takeFrame]; exact used)))
  · have length : f.payload.length = 1 := by simp [payload]
    have byte : byteAt f.payload 0 = groupByte g := by simp [payload, byteAt]
    refine congrArg Host.Outcome.next (State.takeRequest_length offered code length (fun l => ?_) rfl rfl)
    rw [onGroup_of_byte byte, ← flagBit_zero, ← flagBit_one]
    exact congrArg (fun n => (s.withLink l, _ ++ leBytes 2 n)) (s.timeLeft_eq (s.group g).timer)

/-! ## Read Link Status and Read Device Info -/

/-- What Read Link Status answers, by the counters it leaves. -/
theorem execReadLinkStatus_eq {s : State} {f : Frame} {rest : List Frame} {clear : Byte} {timer : Option Nat} (offered : s.offers f rest)
    (code : f.code = 0x51) (payload : f.payload = [clear])
    (runs : timer = if s.link.silenceTimeout = 0 then s.link.silenceTimer else some (s.micros + s.link.silenceTimeout * 1000))
    (good : clear = 0 ∨ clear = 1) :
    exec .readLinkStatus s = .next (State.answered { s with
      link := { s.link with counters := if clear = 1 then ⟨0, 0, 0, 0, 0, 0, 0⟩ else s.link.counters } } f rest
      (0 :: s.link.counters.bytes ++ leBytes 2 s.link.silenceTimeout ++ [flagBit 0 timer.isSome] ++ leBytes 2 (s.timeLeft timer))) := by
  subst runs
  refine congrArg Host.Outcome.next ((State.takeRequest_of_offers _ offered code).trans ?_)
  rw [payload, readLinkStatus, checkLength_of_eq (show [clear].length = 1 from rfl), State.takeFrame_eq]
  rcases good with rfl | rfl <;> rfl

theorem Straps.lineRate_eq (x : Straps) : x.lineRate = match x.baud1, x.baud0 with
    | false, false => 115200
    | false, true => 460800
    | true, false => 1000000
    | true, true => 2000000 := by
  obtain ⟨baud1, baud0⟩ := x
  cases baud1 <;> cases baud0 <;> rfl

/-- Settles O39. -/
theorem readRequestsAnswerTheirFields : Obligations.ReadRequestsAnswerTheirFields := by
  refine ⟨fun s f rest clear timer offered code payload runs => ⟨fun good => ?_, fun zero one => ?_⟩,
    fun s f rest offered code => ⟨fun other => ?_, fun payload => ?_⟩⟩
  · rw [execReadLinkStatus_eq offered code payload runs good, State.timeLeft_eq, flagBit_zero, LinkCounters.bytes]
    simp only [List.append_assoc, List.cons_append] <;> rfl
  · refine congrArg Host.Outcome.next (State.takeRequest_length_unchanged offered code (by simp [payload]) ?_)
    rw [payload, show byteAt [clear] 0 = clear from rfl, twoValued_of_ne zero one]
    rfl
  · exact congrArg Host.Outcome.next (State.takeRequest_badLength offered code other)
  · refine congrArg Host.Outcome.next (State.takeRequest_length offered code (by simp [payload]) (fun l => ?_) rfl rfl)
    rw [← flagBit_zero, ← flagBit_one]
    exact congrArg (fun n => (s.withLink l, _ ++ leBytes 4 n)) s.baud.lineRate_eq

/-! ## The Report Unit -/

theorem ReportUnit.create_of_clear {r : ReportUnit} (time : Word32) (body : ReportBody)
    (clear : ∀ e ∈ r.queue, e.body.isOverflow = false) :
    r.create time body = if r.queue.length < 31 then r.append time body else r.append time (.overflow 1 body.kindBit) := by
  have none : r.queue.any (·.body.isOverflow) = false := by simpa using clear
  rw [ReportUnit.create, none]
  rfl

theorem ReportUnit.create_of_overflow {r : ReportUnit} (time : Word32) (body : ReportBody) {q : List Entry} {e : Entry} {lost : Nat}
    {kinds : Word16} (queue : r.queue = q ++ [e]) (clear : ∀ e' ∈ q, e'.body.isOverflow = false) (full : e.body = .overflow lost kinds) :
    r.create time body = { r with queue := q ++ [{ e with
      body := .overflow (if lost < 65535 then lost + 1 else lost) (kinds ||| (1#16 <<< body.kindCode)) }] } := by
  have some : r.queue.any (·.body.isOverflow) = true := by simp [queue, full, ReportBody.isOverflow]
  have same : ∀ e' ∈ q, Entry.countLost body e' = e' := fun e' mem => by
    have other := clear e' mem
    unfold Entry.countLost
    split
    · next h => simp [h, ReportBody.isOverflow] at other
    · rfl
  have last : Entry.countLost body e =
      { e with body := .overflow (if lost < 65535 then lost + 1 else lost) (kinds ||| (1#16 <<< body.kindCode)) } := by
    rw [Entry.countLost, full]
    rfl
  rw [ReportUnit.create, some, if_pos rfl, queue, List.map_append, List.map_congr_left same, List.map_id', List.map_singleton, last]

theorem ReportUnit.create_ne_nil (r : ReportUnit) (time : Word32) (body : ReportBody) : (r.create time body).queue ≠ [] := by
  rcases r.create_cases time body with ⟨⟨e, mem, -⟩, eq⟩ | ⟨-, -, eq⟩ | ⟨-, -, eq⟩
  · rw [eq]
    exact fun h => by simp [List.map_eq_nil_iff.mp h] at mem
  · simp [eq, ReportUnit.append]
  · simp [eq, ReportUnit.append]

/-- Settles O34. -/
theorem reportIsPlacedByTheQueue : Obligations.ReportIsPlacedByTheQueue := by
  refine fun r time body => ⟨fun clear few => ?_, fun clear full => ?_, fun q e lost kinds => ReportUnit.create_of_overflow time body,
    r.create_ne_nil time body, fun s => ?_⟩
  · rw [ReportUnit.create_of_clear time body clear, if_pos (by omega)]
    rfl
  · rw [ReportUnit.create_of_clear time body clear, if_neg (by omega)]
    rfl
  · simp [State.attnPin, State.attnActive]

/-- Settles O35. -/
theorem configureReportsSetsAllOrNone : Obligations.ConfigureReportsSetsAllOrNone := by
  intro s f rest flags w T offered code payload bound
  have length : f.payload.length = 4 := by simp [payload]
  have streaming : flag (byteAt f.payload 0) 0 = flags.getLsbD 0 := by rw [payload]; rfl
  have window : byteAt f.payload 1 = w := by rw [payload]; rfl
  have timeout : field f.payload 2 2 = T := field_of_drop bound (by rw [payload]; rfl)
  refine ⟨fun some few low high step => ?_, fun bad => ?_⟩
  · have good : ¬((decide (w.toNat = 0) || decide (8 < w.toNat)) = true) := by
      simp only [Bool.or_eq_true, decide_eq_true_eq]
      omega
    have good' : ¬((decide (T < 5) || decide (1275 < T) || decide (T % 5 ≠ 0)) = true) := by
      simp only [Bool.or_eq_true, decide_eq_true_eq]
      omega
    refine ⟨fun fits => ?_, fun over' => ?_⟩
    · refine congrArg Host.Outcome.next (State.takeRequest_length offered code length (fun l => ?_) rfl rfl)
      rw [streaming, window, timeout]
      refine (if_neg good).trans ((if_neg good').trans ?_)
      have stay : ¬w.toNat < (s.withLink l).reports.inFlightCount := Nat.not_lt.mpr fits
      dsimp only
      rw [if_neg stay, flagBit_zero, BitVec.ofNat_toNat, BitVec.setWidth_eq]
      rfl
    · refine congrArg Host.Outcome.next (State.takeRequest_length offered code length (fun l => ?_) rfl rfl)
      rw [streaming, window, timeout]
      refine (if_neg good).trans ((if_neg good').trans ?_)
      have back : w.toNat < (s.withLink l).reports.inFlightCount := over'
      have none : ReportUnit.inFlightCount { s.reports.goBack with streaming := flags.getLsbD 0, window := w.toNat, timeout := T } = 0 :=
        s.reports.inFlightCount_goBack
      have size : s.reports.goBack.queue.length = s.reports.queue.length := List.length_map _
      dsimp only
      rw [if_pos back, flagBit_zero, BitVec.ofNat_toNat, BitVec.setWidth_eq, State.reports_withLink, none, size]
      rfl
  · refine congrArg Host.Outcome.next (State.takeRequest_length_unchanged offered code length ?_)
    rw [streaming, window, timeout]
    dsimp only
    split
    · rfl
    · next good =>
      refine if_pos ?_
      simp only [Bool.or_eq_true, decide_eq_true_eq] at good ⊢
      omega

/-! ## Acknowledge Reports -/

section AcknowledgeReports
variable {n : Word16} {pre left : List Entry} {e : Entry}

theorem splitAck_found (other : ∀ e' ∈ pre, e'.seq ≠ n) (seq : e.seq = n) (sent : e.onceSent = true) :
    splitAck n (pre ++ e :: left) = some (pre ++ [e], left) := by
  induction pre with
  | nil => simp [splitAck, seq, sent]
  | cons e' pre ih =>
    rw [List.forall_mem_cons] at other
    rw [List.cons_append, splitAck, if_neg other.1, ih other.2]
    rfl

theorem splitAck_unsent {q : List Entry} (unsent : ∀ e ∈ q, e.seq = n → e.onceSent = false) : splitAck n q = none := by
  induction q with
  | nil => rfl
  | cons e q ih =>
    rw [List.forall_mem_cons] at unsent
    rw [splitAck, ih unsent.2]
    split
    · next seq => simp [unsent.1 seq]
    · rfl

theorem overflowFigures?_clear {q : List Entry} (clear : ∀ e ∈ q, e.body.isOverflow = false) : overflowFigures? q = none := by
  rw [overflowFigures?, List.findSome?_eq_none_iff]
  intro e mem
  have other := clear e mem
  split
  · next h => simp [h, ReportBody.isOverflow] at other
  · rfl

theorem overflowFigures?_last {lost : Nat} {kinds : Word16} (clear : ∀ e' ∈ pre, e'.body.isOverflow = false)
    (full : e.body = .overflow lost kinds) : overflowFigures? (pre ++ [e]) = some (lost, kinds) := by
  have none := overflowFigures?_clear clear
  rw [overflowFigures?] at none ⊢
  rw [List.findSome?_append, none]
  simp [full]

theorem inFlightCount_eq_zero_iff (r : ReportUnit) : r.inFlightCount = 0 ↔ ¬∃ e ∈ r.queue, e.inFlight = true := by
  simp [ReportUnit.inFlightCount, List.filter_eq_nil_iff]

theorem oldestBytes_eq (q : List Entry) (flags : Byte) :
    oldestBytes q flags = ((if q = [] then 0 else 1) ||| flags) :: leBytes 2 ((q.head?.map (fun e => e.seq.toNat)).getD 0) := by
  cases q <;> rfl

end AcknowledgeReports

/-- Settles O36. -/
theorem acknowledgeRemovesThroughN : Obligations.AcknowledgeRemovesThroughN := by
  intro s f rest n offered code payload
  have length : f.payload.length = 2 := by simp [payload]
  have number : BitVec.ofNat 16 (field f.payload 0 2) = n := by
    rw [payload, field_leBytes (show n.toNat < 256 ^ 2 from n.isLt), BitVec.ofNat_toNat, BitVec.setWidth_eq]
  refine ⟨fun pre e left queue seq sent other => ?_, fun unsent => ?_⟩
  · refine ⟨oldestBytes left (presence 1 (overflowFigures? (pre ++ [e])))
        ++ (leBytes 2 (((overflowFigures? (pre ++ [e])).map (·.1)).getD 0)
          ++ bytes16? ((overflowFigures? (pre ++ [e])).map (·.2))),
      congrArg Host.Outcome.next (State.takeRequest_length offered code length (fun l => ?_) rfl rfl), fun clear => ?_,
      fun lost kinds clear full empty => ?_⟩
    · have split : splitAck n (s.withLink l).reports.queue = some (pre ++ [e], left) := by
        rw [State.reports_withLink, queue, splitAck_found other seq sent]
      have timer : ∀ t : Nat, (if ReportUnit.inFlightCount { s.reports with queue := left } = 0 then none else some t) =
          if (∃ e' ∈ left, e'.inFlight = true) then some t else none := fun t => by
        simp only [inFlightCount_eq_zero_iff, ite_not]
      rw [number, split]
      dsimp only
      rw [State.reports_withLink, State.micros_withLink, timer, List.append_assoc, List.append_assoc, List.length_append]
      rfl
    · rw [overflowFigures?_clear clear, oldestBytes_eq]
      simp [presence, flagBit, leBytes, bytes16?, bytes16]
    · rw [overflowFigures?_last clear full, empty, oldestBytes_eq]
      simp [presence, flagBit, leBytes, bytes16?, bytes16]
  · refine congrArg Host.Outcome.next (State.takeRequest_length offered code length (fun l => ?_) rfl rfl)
    have none : splitAck n (s.withLink l).reports.queue = none := splitAck_unsent unsent
    rw [number, none, State.reports_withLink, oldestBytes_eq]
    simp [Status.code]

end Sys2Proof.Machine

/-!
PROOF. The rates of a MOVE, of a SEEK and of the resume ramp (R36, R62, R69).
-/

namespace Sys2Proof.Machine

section MoveRates
variable {n S E k : Nat}

theorem moveRate_one (S E k : Nat) : moveRate 1 S E k = S := if_pos (le_refl 1)

/-- A rising profile, in natural numbers. -/
theorem moveRate_of_le (many : 2 ≤ n) (first : 1 ≤ k) (rises : S ≤ E) : moveRate n S E k = S + (E - S) * (k - 1) / (n - 1) := by
  obtain ⟨d, rfl⟩ := Nat.exists_eq_add_of_le rises
  obtain ⟨j, rfl⟩ := Nat.exists_eq_add_of_le' first
  obtain ⟨m, rfl⟩ := Nat.exists_eq_add_of_le' (Nat.one_le_of_lt many)
  have up : ((S + d : Nat) : Int) - S = (d : Int) := by omega
  rw [moveRate, if_neg (by omega), up, Nat.add_sub_cancel_left, Nat.add_sub_cancel, Nat.add_sub_cancel, Nat.cast_add_one, Nat.cast_add_one,
    add_sub_cancel_right, add_sub_cancel_right, ← Int.natCast_mul, ← Int.ofNat_tdiv, ← Nat.cast_add, Int.toNat_natCast]

/-- A falling profile, in natural numbers. -/
theorem moveRate_of_ge (many : 2 ≤ n) (first : 1 ≤ k) (falls : E ≤ S) : moveRate n S E k = S - (S - E) * (k - 1) / (n - 1) := by
  obtain ⟨d, rfl⟩ := Nat.exists_eq_add_of_le falls
  obtain ⟨j, rfl⟩ := Nat.exists_eq_add_of_le' first
  obtain ⟨m, rfl⟩ := Nat.exists_eq_add_of_le' (Nat.one_le_of_lt many)
  have down : (E : Int) - ((E + d : Nat) : Int) = -(d : Int) := by omega
  rw [moveRate, if_neg (by omega), down, Nat.add_sub_cancel_left, Nat.add_sub_cancel, Nat.add_sub_cancel, Nat.cast_add_one, Nat.cast_add_one,
    add_sub_cancel_right, add_sub_cancel_right, Int.neg_mul, Int.neg_tdiv, ← Int.natCast_mul, ← Int.ofNat_tdiv]
  omega

/-- What the profile has gone by step `k` is at most the whole change. -/
theorem profile_le (many : 2 ≤ n) (last : k ≤ n) (d : Nat) : d * (k - 1) / (n - 1) ≤ d :=
  Nat.div_le_of_le_mul (by rw [Nat.mul_comm (n - 1)]; exact Nat.mul_le_mul_left d (by omega))

theorem moveRate_eq (many : 2 ≤ n) (first : 1 ≤ k) (last : k ≤ n) :
    (moveRate n S E k : Int) = S + Int.tdiv (((E : Int) - S) * ((k : Int) - 1)) ((n : Int) - 1) := by
  have nonneg : 0 ≤ (S : Int) + Int.tdiv (((E : Int) - S) * ((k : Int) - 1)) ((n : Int) - 1) := by
    rcases Nat.le_total S E with rises | falls
    · have gone : 0 ≤ Int.tdiv (((E : Int) - S) * ((k : Int) - 1)) ((n : Int) - 1) :=
        Int.tdiv_nonneg (Int.mul_nonneg (by omega) (by omega)) (by omega)
      omega
    · have gone := profile_le many last (S - E)
      have eq : Int.tdiv (((E : Int) - S) * ((k : Int) - 1)) ((n : Int) - 1) = -(((S - E) * (k - 1) / (n - 1) : Nat) : Int) := by
        rw [show ((E : Int) - S) = -((S - E : Nat) : Int) by omega, show ((k : Int) - 1) = ((k - 1 : Nat) : Int) by omega,
          show ((n : Int) - 1) = ((n - 1 : Nat) : Int) by omega, Int.neg_mul, Int.neg_tdiv, ← Int.natCast_mul, ← Int.ofNat_tdiv]
      omega
  rw [moveRate, if_neg (by omega), Int.toNat_of_nonneg nonneg]

theorem moveRate_ends (many : 2 ≤ n) : moveRate n S E 1 = S ∧ moveRate n S E n = E := by
  have whole : ∀ d, d * (n - 1) / (n - 1) = d := fun d => Nat.mul_div_cancel d (by omega)
  rcases Nat.le_total S E with rises | falls
  · rw [moveRate_of_le many (le_refl 1) rises, moveRate_of_le many (by omega) rises, whole]
    simp
    omega
  · rw [moveRate_of_ge many (le_refl 1) falls, moveRate_of_ge many (by omega) falls, whole]
    simp
    omega

/-- The change by step `k` grows with `k`. -/
theorem profile_mono (n d k : Nat) : d * (k - 1) / (n - 1) ≤ d * (k + 1 - 1) / (n - 1) :=
  Nat.div_le_div_right (Nat.mul_le_mul_left d (by omega))

theorem moveRate_mono (many : 2 ≤ n) (first : 1 ≤ k) :
    (S ≤ E → moveRate n S E k ≤ moveRate n S E (k + 1)) ∧ (E ≤ S → moveRate n S E (k + 1) ≤ moveRate n S E k) := by
  refine ⟨fun rises => ?_, fun falls => ?_⟩
  · rw [moveRate_of_le many first rises, moveRate_of_le many (Nat.succ_pos k) rises]
    exact Nat.add_le_add_left (profile_mono n _ k) S
  · rw [moveRate_of_ge many first falls, moveRate_of_ge many (Nat.succ_pos k) falls]
    exact Nat.sub_le_sub_left (profile_mono n _ k) S

end MoveRates

theorem Ctx.nextRate_stepping {c : Ctx} (h : c.phase = .stepping) (set : AxisSettings) :
    c.nextRate set = c.seg.body.profileRate (c.stepsDone + 1) := by rw [Ctx.nextRate, h]

theorem Ctx.nextRate_ramp {c : Ctx} (h : c.phase = .ramp) (set : AxisSettings) :
    c.nextRate set = min (c.seg.body.profileRate (c.stepsDone + 1)) (set.baseRate + (c.rampSteps + 1) * set.decrement) := by
  rw [Ctx.nextRate, h]

/-- Settles O4. -/
theorem moveRatesRunFromStartToEnd : Obligations.MoveRatesRunFromStartToEnd := by
  refine ⟨moveRate_one, fun n S E k => moveRate_eq, fun n S E => moveRate_ends, fun n S E k many first _ => moveRate_mono many first,
    fun _ _ _ _ _ => rfl, fun _ _ _ _ _ _ => rfl, by decide, by decide, fun steps S E r set c body => ⟨fun phase => ?_, fun phase => ?_⟩,
    fun d rate max src e set c body => ⟨fun phase => ?_, fun phase => ?_⟩⟩
  · rw [Ctx.nextRate_stepping phase, body, SegBody.profileRate]
  · rw [Ctx.nextRate_ramp phase, body, SegBody.profileRate]
  · rw [Ctx.nextRate_stepping phase, body, SegBody.profileRate]
  · rw [Ctx.nextRate_ramp phase, body, SegBody.profileRate]

end Sys2Proof.Machine

/-!
PROOF. Inputs: raw changes (R173, R174), deliveries to their consumers (R118, R119), the index and quadrature channels (R83 to R88).
-/

namespace Sys2Proof.Machine

/-! ## Raw changes -/

theorem InputLine.rawChange_same {clock filterTime : Nat} {level : Bool} {l : InputLine} (h : l.raw = level) :
    l.rawChange clock filterTime level = l := if_pos h

theorem InputLine.rawChange_other {clock filterTime : Nat} {level : Bool} {l : InputLine} {due : Option Nat} (h : l.raw ≠ level)
    (d : l.due = none ∧ due = some (clock + filterTime) ∨ ∃ t, l.due = some t ∧ due = if clock < t then none else some t) :
    l.rawChange clock filterTime level = { l with raw := level, due := due } := by
  rw [InputLine.rawChange, if_neg h]
  rcases d with ⟨idle, rfl⟩ | ⟨t, timed, rfl⟩
  · rw [idle]
  · rw [timed]

@[simp] theorem AxisInputs.setLine_line (x : AxisInputs) (i : AxisInput) : x.setLine i (x.line i) = x := by cases i <;> rfl

theorem State.setAxis_axis (s : State) (a : AxisId) : s.setAxis a (s.axis a) = s := by
  obtain ⟨-, -, -, -, -, -, -⟩ := s
  simp [State.setAxis, State.axis]

theorem switchFilterTime_eq {n : Nat} (h : n ≤ 7) : switchFilterTime n = 4 * [0, 1, 2, 4, 8, 16, 32, 64].getD n 0 := by
  interval_cases n <;> rfl

theorem encoderFilterTime_eq {n : Nat} (h : n ≤ 3) : 250 * encoderFilterTime n = [0, 250, 500, 1000].getD n 0 := by
  interval_cases n <;> rfl

/-- Settles O51. -/
theorem rawChangesAreFiltered : Obligations.RawChangesAreFiltered := by
  refine ⟨?_, fun x => ⟨fun i mem h => ?_, fun i mem h => ?_⟩, fun s level on => ⟨fun same => ?_, fun other due d => ?_⟩,
    fun s level => ⟨rfl, rfl⟩⟩
  · rintro s a i level l rfl on
    have eq : ∀ x, exec (.rawInputChange (.axis a i) level) s = .next x ↔ s.setAxis a { s.axis a with
        inputs := (s.axis a).inputs.setLine i
          (((s.axis a).inputs.line i).rawChange s.clock ((s.axis a).settings.filterTime i) level) } = x := fun x => by
      rw [show exec (.rawInputChange (.axis a i) level) s = .next (s.modAxis a fun x => { x with
        inputs := x.inputs.setLine i (if s.power = .on then (x.inputs.line i).rawChange s.clock (x.settings.filterTime i) level
          else (x.inputs.line i).rawOnly level) }) from rfl, on, Host.Outcome.next.injEq]
      rfl
    refine ⟨fun same => (eq _).mpr ?_, fun other due d => (eq _).mpr ?_⟩
    · rw [InputLine.rawChange_same same, AxisInputs.setLine_line]
      exact s.setAxis_axis a
    · rw [InputLine.rawChange_other other d]
  · have time : x.filterTime i = switchFilterTime x.switchFilter := by
      cases i <;> first | rfl | simp at mem
    rw [time, switchFilterTime_eq h]
  · have time : x.filterTime i = encoderFilterTime x.encoderFilter := by
      cases i <;> first | rfl | simp at mem
    rw [time, encoderFilterTime_eq h]
  · refine congrArg Host.Outcome.next ?_
    show { s with trip := if s.power = Power.on then s.trip.rawChange s.clock tripFilterTime level else s.trip.rawOnly level } = s
    rw [if_pos on, InputLine.rawChange_same same]
  · refine congrArg Host.Outcome.next ?_
    show { s with trip := if s.power = Power.on then s.trip.rawChange s.clock tripFilterTime level else s.trip.rawOnly level } = _
    rw [if_pos on, InputLine.rawChange_other (filterTime := tripFilterTime) other d]

/-! ## Deliveries -/

/-- A trigger edge in the words of the statements. -/
theorem Axis.watches_iff (x : Axis) (source : TrigSource) (toActive : Bool) :
    x.watches source toActive = true ↔ x.triggeredBy source toActive := by
  unfold Axis.watches Axis.triggeredBy
  rw [Bool.and_eq_true, Bool.or_eq_true, decide_eq_true_eq, decide_eq_true_eq]
  refine and_congr_right fun _ => ?_
  cases x.ctx with
  | none => simp
  | some c =>
    rw [Option.any_some, Bool.and_eq_true, decide_eq_true_eq]
    constructor
    · rintro ⟨watch, edge⟩
      split at edge
      · next dir rate max src kind body =>
        simp only [Bool.and_eq_true, decide_eq_true_eq] at edge
        obtain ⟨rfl, level⟩ := edge
        exact ⟨c, dir, rate, max, kind, rfl, watch, body, iff_of_eq level⟩
      all_goals cases edge
    · rintro ⟨_, dir, rate, max, kind, ⟨⟩, watch, body, level⟩
      rw [body]
      refine ⟨watch, ?_⟩
      rw [Bool.and_eq_true, decide_eq_true_eq, decide_eq_true_eq]
      exact ⟨rfl, propext level⟩

theorem Axis.nextActive_eq (x : Axis) (i : AxisInput) : x.nextActive i = !x.inputActive i := by
  unfold Axis.nextActive Axis.inputActive
  cases (x.inputs.line i).filtered <;> cases x.settings.activeHigh i <;> rfl

/-- The axis with one input delivered. -/
def Axis.delivered (clock : Nat) (i : AxisInput) (x : Axis) : Axis :=
  { x with inputs := x.inputs.setLine i ((x.inputs.line i).deliver clock (x.settings.filterTime i)) }

theorem State.deliverInput_eq (s : State) (a : AxisId) (i : AxisInput) :
    s.deliverInput a i = s.setAxis a ((s.axis a).delivered s.clock i) := rfl

theorem InputLine.deliver_eq (l : InputLine) (clock filterTime : Nat) :
    l.deliver clock filterTime = ⟨l.raw, !l.filtered, if l.raw = l.filtered then some (clock + filterTime) else none⟩ := by
  unfold InputLine.deliver
  cases l.raw <;> cases l.filtered <;> rfl

/-- A delivery turns the level of its input. -/
theorem Axis.inputActive_delivered (x : Axis) (clock : Nat) (i : AxisInput) :
    (x.delivered clock i).inputActive i = !x.inputActive i := by
  rw [← Axis.nextActive_eq]
  cases i <;> rfl

section AxisInputs
variable {s : State} {a : AxisId} {i : AxisInput} {t : Nat}

/-- The input whose filter time has run out is delivered now. -/
theorem State.inputDue_delivered (timed : ((s.axis a).inputs.line i).due = some t) (due : t ≤ s.clock) :
    s.inputDue a i = some t ∧ s.passTo t = s := ⟨timed, s.passTo_of_le due⟩

theorem execLimitInputChange_of_due {which : LimitInput} (timed : ((s.axis a).inputs.line (limitInputOf which)).due = some t)
    (due : t ≤ s.clock) : exec (.limitInputChange a which) s = .next (s.deliverInput a (limitInputOf which)) := by
  obtain ⟨runs, now⟩ := State.inputDue_delivered timed due
  refine congrArg Host.Outcome.next ?_
  rw [runs]
  exact congrArg (fun u => State.deliverInput u a (limitInputOf which)) now

theorem execLimitInputChange_of_none {which : LimitInput} (idle : ((s.axis a).inputs.line (limitInputOf which)).due = none) :
    exec (.limitInputChange a which) s = .next s := by
  refine congrArg Host.Outcome.next ?_
  rw [show s.inputDue a (limitInputOf which) = none from idle]

theorem execHomeInputChange_of_due (untriggered : ¬(s.axis a).triggeredBy .home (!(s.axis a).inputActive .home))
    (timed : ((s.axis a).inputs.line .home).due = some t) (due : t ≤ s.clock) :
    exec (.homeInputChange a) s = .next (s.deliverInput a .home) := by
  obtain ⟨runs, now⟩ := State.inputDue_delivered timed due
  rw [← Axis.watches_iff, ← Axis.nextActive_eq] at untriggered
  refine congrArg Host.Outcome.next ?_
  rw [if_neg untriggered, runs]
  exact congrArg (fun u => State.deliverInput u a .home) now

theorem execHomeInputChange_of_none (idle : ((s.axis a).inputs.line .home).due = none) :
    exec (.homeInputChange a) s = .next s := by
  refine congrArg Host.Outcome.next ?_
  split
  · rfl
  · rw [show s.inputDue a .home = none from idle]

theorem execDfltChange_of_due (timed : ((s.axis a).inputs.line .dflt).due = some t) (due : t ≤ s.clock) :
    exec (.dfltChange a) s = .next (if (s.axis a).inputActive .dflt = true then s.deliverInput a .dflt
      else (s.deliverInput a .dflt).raiseCause a .drive) := by
  obtain ⟨runs, now⟩ := State.inputDue_delivered timed due
  have level : ((s.deliverInput a .dflt).axis a).inputActive .dflt = !(s.axis a).inputActive .dflt := by
    rw [State.deliverInput_eq, State.axis_setAxis_self, Axis.inputActive_delivered]
  refine congrArg Host.Outcome.next ?_
  rw [runs]
  dsimp only
  rw [now, level]
  cases (s.axis a).inputActive .dflt <;> rfl

theorem execDfltChange_of_none (idle : ((s.axis a).inputs.line .dflt).due = none) : exec (.dfltChange a) s = .next s := by
  refine congrArg Host.Outcome.next ?_
  rw [show s.inputDue a .dflt = none from idle]

/-- TRIP delivered: it goes to each axis whose trip-enable is set when it becomes active (R119). -/
theorem execTripChange_of_due (timed : s.trip.due = some t) (due : t ≤ s.clock) : ∃ u, exec .tripChange s = .next u
    ∧ u.trip = s.trip.deliver s.clock 16
    ∧ (∀ a, u.axis a = { s.axis a with
        tripPending := (s.axis a).tripPending || (s.trip.filtered && (s.axis a).protection.tripEnable) })
    ∧ u = { s with trip := u.trip, axes := u.axes } := by
  have active : State.tripActive { s with trip := s.trip.deliver s.clock tripFilterTime } = s.trip.filtered := by
    simp [State.tripActive, InputLine.deliver]
  have outcome : exec .tripChange s = .next (if s.trip.filtered = true then
      State.modAxes { s with trip := s.trip.deliver s.clock tripFilterTime } fun _ x =>
        { x with tripPending := x.tripPending || x.protection.tripEnable }
      else { s with trip := s.trip.deliver s.clock tripFilterTime }) := by
    refine congrArg Host.Outcome.next ?_
    rw [timed]
    dsimp only
    rw [s.passTo_of_le due, active]
  refine ⟨_, outcome, ?_⟩
  cases s.trip.filtered
  · exact ⟨rfl, fun a => by simp, rfl⟩
  · exact ⟨rfl, fun a => by simp, rfl⟩

theorem execTripChange_of_none (idle : s.trip.due = none) : exec .tripChange s = .next s := by
  refine congrArg Host.Outcome.next ?_
  rw [idle]

theorem execTripCause_of_pending (pending : (s.axis a).tripPending = true) :
    exec (.tripCause a) s = .next (if (s.axis a).protection.tripEnable = true
      then (s.setAxis a { s.axis a with tripPending := false }).raiseCause a .trip
      else s.setAxis a { s.axis a with tripPending := false }) := by
  refine congrArg Host.Outcome.next ?_
  rw [if_pos pending]
  dsimp only
  rw [State.modAxis_eq, State.axis_setAxis_self]

theorem Axis.inputActive_iff (x : Axis) (i : AxisInput) :
    x.inputActive i = true ↔ (x.inputs.line i).filtered = x.settings.activeHigh i := by rw [Axis.inputActive, beq_iff_eq]

end AxisInputs

/-- Settles O52. -/
theorem deliveredLevelsReachTheirConsumers : Obligations.DeliveredLevelsReachTheirConsumers := by
  refine ⟨fun x => ⟨x.inputActive_iff .limp, x.inputActive_iff .limn, x.inputActive_iff .home, x.inputActive_iff .dflt, ?_⟩,
    fun x i => by cases i <;> rfl, InputLine.deliver_eq, ?_, ?_, fun s t => execTripChange_of_due, fun s => execTripChange_of_none,
    fun s a => ⟨fun pending enabled => ?_, fun pending disabled => ?_, fun idle => ?_⟩⟩
  · rw [Axis.inputActive]
    exact beq_true _
  · rintro s a x i c rfl (⟨rfl, rfl⟩ | ⟨rfl, rfl⟩ | ⟨rfl, rfl, untriggered⟩ | ⟨rfl, rfl, active⟩)
    · exact ⟨fun t => execLimitInputChange_of_due (which := .positive), execLimitInputChange_of_none (which := .positive)⟩
    · exact ⟨fun t => execLimitInputChange_of_due (which := .negative), execLimitInputChange_of_none (which := .negative)⟩
    · exact ⟨fun t => execHomeInputChange_of_due untriggered, execHomeInputChange_of_none⟩
    · refine ⟨fun t timed due => ?_, execDfltChange_of_none⟩
      rw [execDfltChange_of_due timed due, if_pos active]
      rfl
  · rintro s a x y t rfl inactive timed due rfl
    rw [execDfltChange_of_due timed due, if_neg (by simp [inactive])]
    rfl
  · rw [execTripCause_of_pending pending, if_pos enabled]
  · rw [execTripCause_of_pending pending, if_neg (by simp [disabled])]
  · exact congrArg Host.Outcome.next (if_neg (by simp [idle]))

end Sys2Proof.Machine

/-!
PROOF. The encoder: index edges (R87, R88) and quadrature pairs (R83 to R85, R173).
-/

namespace Sys2Proof.Machine

section EncoderInputs
variable {s : State} {a : AxisId} {x : Axis} {t : Nat}

/-! ## The index edge -/

/-- The reports once an index edge has been taken at this encoder. -/
def State.indexReports (s : State) (a : AxisId) (x : Axis) : ReportUnit :=
  if x.settings.indexReports = true
  then s.reports.create s.deviceTime (.indexSeen a x.encoder.position (x.encoder.indexCount + 1)) else s.reports

theorem State.takeIndexEdge_of_pending (axis : s.axis a = x) (pending : x.encoder.edgePending = true) :
    s.takeIndexEdge a = { s.setAxis a { x with encoder := x.encoder.indexEdge } with reports := s.indexReports a x } := by
  subst axis
  rw [State.takeIndexEdge, if_pos pending, State.modAxis_eq]
  dsimp only
  rw [State.axis_setAxis_self, State.indexReports]
  cases (s.axis a).settings.indexReports <;> rfl

theorem State.takeIndexEdge_of_none (axis : s.axis a = x) (idle : x.encoder.edgePending = false) : s.takeIndexEdge a = s := by
  subst axis
  exact if_neg (by simp [idle])

/-- ENCI delivered: whether it is an active edge, and whether it is the trigger edge of an open watch (R88). -/
theorem State.deliverEnci_eq (axis : s.axis a = x) :
    s.deliverEnci a = s.setAxis a { x with
      inputs := { x.inputs with enci := x.inputs.enci.deliver s.clock (x.settings.filterTime .enci) }
      encoder := { x.encoder with edgePending := x.encoder.edgePending || !x.inputs.enci.filtered }
      ctx := if x.watches .index (!x.inputs.enci.filtered) = true then x.ctx.map fun c => { c with edgePending := true } else x.ctx } := by
  subst axis
  have active : (s.axis a).nextActive .enci = !(s.axis a).inputs.enci.filtered := beq_true _
  rw [State.deliverEnci, active, State.deliverInput_eq, State.modAxis_eq, State.axis_setAxis_self, State.setAxis_setAxis]
  rfl

theorem execIndexEdge_of_pending (axis : s.axis a = x) (pending : x.encoder.edgePending = true) :
    exec (.indexEdge a) s = .next (s.takeIndexEdge a) := by
  subst axis
  exact congrArg Host.Outcome.next (if_pos pending)

theorem execIndexEdge_of_due (axis : s.axis a = x) (idle : x.encoder.edgePending = false) (timed : x.inputs.enci.due = some t)
    (due : t ≤ s.clock) : exec (.indexEdge a) s = .next ((s.deliverEnci a).takeIndexEdge a) := by
  subst axis
  refine congrArg Host.Outcome.next ((if_neg (by simp [idle])).trans ?_)
  rw [show s.inputDue a .enci = some t from timed]
  dsimp only
  rw [s.passTo_of_le due]

theorem execIndexEdge_of_none (axis : s.axis a = x) (idle : x.encoder.edgePending = false) (still : x.inputs.enci.due = none) :
    exec (.indexEdge a) s = .next s := by
  subst axis
  refine congrArg Host.Outcome.next ((if_neg (by simp [idle])).trans ?_)
  rw [show s.inputDue a .enci = none from still]

/-- The change of ENCI that is an active edge, taken at once. -/
theorem execIndexEdge_active {ctx : Option Ctx} (axis : s.axis a = x) (idle : x.encoder.edgePending = false)
    (timed : x.inputs.enci.due = some t) (due : t ≤ s.clock) (low : x.inputs.enci.filtered = false)
    (context : (if x.watches .index true = true then x.ctx.map fun c => { c with edgePending := true } else x.ctx) = ctx) :
    exec (.indexEdge a) s = .next { s.setAxis a { x with
      inputs := { x.inputs with enci := x.inputs.enci.deliver s.clock (x.settings.filterTime .enci) }
      encoder := x.encoder.indexEdge, ctx := ctx } with reports := s.indexReports a x } := by
  have delivered := State.deliverEnci_eq axis
  rw [low, idle] at delivered
  rw [execIndexEdge_of_due axis idle timed due, delivered, State.takeIndexEdge_of_pending (State.axis_setAxis_self _ _ _) rfl,
    State.setAxis_setAxis, ← context]
  rfl

/-- The change of ENCI that is no active edge. -/
theorem execIndexEdge_inactive {ctx : Option Ctx} (axis : s.axis a = x) (idle : x.encoder.edgePending = false)
    (timed : x.inputs.enci.due = some t) (due : t ≤ s.clock) (high : x.inputs.enci.filtered = true)
    (context : (if x.watches .index false = true then x.ctx.map fun c => { c with edgePending := true } else x.ctx) = ctx) :
    exec (.indexEdge a) s = .next (s.setAxis a { x with
      inputs := { x.inputs with enci := x.inputs.enci.deliver s.clock (x.settings.filterTime .enci) }, ctx := ctx }) := by
  have delivered := State.deliverEnci_eq axis
  rw [high] at delivered
  rw [execIndexEdge_of_due axis idle timed due, delivered, State.takeIndexEdge_of_none (State.axis_setAxis_self _ _ _) (by simp [idle]),
    ← context, Bool.not_true, Bool.or_false]

/-! ## Quadrature -/

theorem State.takePair_of_same (axis : s.axis a = x) (same : x.encoder.quad = none ∨ x.encoder.quad = some x.encoderPair) :
    s.takePair a = s := by
  subst axis
  unfold State.takePair
  dsimp only
  rcases same with e | e
  · rw [e]
  · rw [e]
    exact if_pos rfl

theorem State.takePair_counted {old : Bool × Bool} {n : Word32} (axis : s.axis a = x) (quad : x.encoder.quad = some old)
    (count : quadCount old x.encoderPair = some n) (ne : x.encoderPair ≠ old) :
    s.takePair a = (s.setAxis a { x with
      encoder := { x.encoder with position := x.encoder.position + n, quad := some x.encoderPair } }).evaluateFollow a := by
  subst axis
  unfold State.takePair
  dsimp only
  rw [quad]
  refine (if_neg ne).trans ?_
  rw [count]
  rfl

theorem State.takePair_error {old : Bool × Bool} (axis : s.axis a = x) (quad : x.encoder.quad = some old)
    (count : quadCount old x.encoderPair = none) (ne : x.encoderPair ≠ old) :
    s.takePair a = if x.protection.encoderErrorEnable = true
      then (s.setAxis a { x with
        encoder := { x.encoder with quad := some x.encoderPair, errorCount := satInc x.encoder.errorCount } }).raiseCause a .encoder
      else s.setAxis a { x with
        encoder := { x.encoder with quad := some x.encoderPair, errorCount := satInc x.encoder.errorCount } } := by
  subst axis
  unfold State.takePair
  dsimp only
  rw [quad]
  refine (if_neg ne).trans ?_
  rw [count]
  rfl

/-- The transitions of one channel, by their count (R84). -/
theorem quadCount_of_mem {old new : Bool × Bool} {n : Word32} (h : (old, new, n) ∈
    ([((false, false), (true, false), 1), ((true, false), (true, true), 1), ((true, true), (false, true), 1),
      ((false, true), (false, false), 1), ((false, false), (false, true), -1), ((false, true), (true, true), -1),
      ((true, true), (true, false), -1), ((true, false), (false, false), -1)] : List ((Bool × Bool) × (Bool × Bool) × Word32))) :
    quadCount old new = some n ∧ new ≠ old := by
  simp only [List.mem_cons, List.not_mem_nil, or_false, Prod.mk.injEq] at h
  rcases h with ⟨rfl, rfl, rfl⟩ | ⟨rfl, rfl, rfl⟩ | ⟨rfl, rfl, rfl⟩ | ⟨rfl, rfl, rfl⟩ | ⟨rfl, rfl, rfl⟩ | ⟨rfl, rfl, rfl⟩
    | ⟨rfl, rfl, rfl⟩ | ⟨rfl, rfl, rfl⟩ <;>
    exact ⟨rfl, by decide⟩

/-- A transition of both channels counts nothing (R85). -/
theorem quadCount_of_both {a b a' b' : Bool} (ne : a ≠ a') (ne' : b ≠ b') :
    quadCount (a, b) (a', b') = none ∧ ((a', b') : Bool × Bool) ≠ (a, b) := by
  revert a b a' b'
  decide

theorem State.deliverChannel_now {i : AxisInput} (h : ((s.axis a).inputs.line i).due = some t) :
    s.deliverChannel a i t = s.deliverInput a i := if_pos h

theorem State.deliverChannel_later {i : AxisInput} (h : ((s.axis a).inputs.line i).due ≠ some t) : s.deliverChannel a i t = s := if_neg h

theorem execQuadratureTransition_of_due (pair : s.pairDue a = some t) (due : t ≤ s.clock) :
    exec (.quadratureTransition a) s = .next (((s.deliverChannel a .enca t).deliverChannel a .encb t).takePair a) := by
  refine congrArg Host.Outcome.next ?_
  rw [pair]
  dsimp only
  rw [s.passTo_of_le due]

/-- What a delivery of ENCA leaves of ENCB. -/
theorem State.line_deliverInput_ne {i j : AxisInput} (ne : j ≠ i) :
    ((s.deliverInput a i).axis a).inputs.line j = (s.axis a).inputs.line j := by
  rw [State.deliverInput_eq, State.axis_setAxis_self]
  cases i <;> cases j <;> first | rfl | exact absurd rfl ne

theorem State.pairDue_eq (s : State) (a : AxisId) :
    s.pairDue a = Option.merge min (s.axis a).inputs.enca.due (s.axis a).inputs.encb.due := by
  rw [State.pairDue, show s.inputDue a .enca = (s.axis a).inputs.enca.due from rfl,
    show s.inputDue a .encb = (s.axis a).inputs.encb.due from rfl]
  cases (s.axis a).inputs.enca.due <;> cases (s.axis a).inputs.encb.due <;> rfl

end EncoderInputs

/-- Settles O54. -/
theorem encoderInputsAreCounted : Obligations.EncoderInputsAreCounted := by
  refine ⟨?_, ?_, ?_⟩
  · rintro s a x e inputs reports rfl rfl rfl rfl
    refine ⟨fun pending => ?_, fun idle still => execIndexEdge_of_none rfl idle still, fun t idle timed due => ⟨fun low untriggered => ?_,
      fun k low triggered ctx => ?_, fun high untriggered => ?_, fun k high triggered ctx => ?_⟩⟩
    · rw [execIndexEdge_of_pending rfl pending, State.takeIndexEdge_of_pending rfl pending]
      rfl
    · rw [← Axis.watches_iff] at untriggered
      exact execIndexEdge_active rfl idle timed due low (if_neg untriggered)
    · rw [← Axis.watches_iff] at triggered
      exact execIndexEdge_active rfl idle timed due low ((if_pos triggered).trans (by rw [ctx]; rfl))
    · rw [← Axis.watches_iff] at untriggered
      exact execIndexEdge_inactive rfl idle timed due high (if_neg untriggered)
    · rw [← Axis.watches_iff] at triggered
      exact execIndexEdge_inactive rfl idle timed due high ((if_pos triggered).trans (by rw [ctx]; rfl))
  · rintro s a x A B A' B' rfl rfl rfl
    refine ⟨fun none => State.takePair_of_same rfl (.inl none), fun same => State.takePair_of_same rfl (.inr same), fun n quad mem => ?_,
      fun y quad ne ne' e => ?_⟩
    · obtain ⟨count, changed⟩ := quadCount_of_mem mem
      exact State.takePair_counted rfl quad count changed
    · subst e
      obtain ⟨count, changed⟩ := quadCount_of_both ne ne'
      have error := State.takePair_error rfl quad count changed
      exact ⟨fun off => error.trans (if_neg (by simp [off])), fun on => error.trans (if_pos on)⟩
  · rintro s a x A B rfl rfl rfl
    refine ⟨fun t timed due later => ?_, fun u timed due later => ?_, fun t timed timed' due => ?_, fun idle idle' => ?_⟩
    · have pair : s.pairDue a = some t := by
        cases other : (s.axis a).inputs.encb.due with
        | none => rw [State.pairDue_eq, timed, other]; rfl
        | some u => rw [State.pairDue_eq, timed, other, Option.merge_some_some, Nat.min_eq_left (Nat.le_of_lt (later u other))]
      have only : (((s.deliverInput a .enca).axis a).inputs.line .encb).due ≠ some t := by
        rw [State.line_deliverInput_ne (by decide)]
        exact fun same => absurd (later t same) (Nat.lt_irrefl t)
      rw [execQuadratureTransition_of_due pair due, State.deliverChannel_now (i := .enca) timed, State.deliverChannel_later only]
      rfl
    · have pair : s.pairDue a = some u := by
        cases other : (s.axis a).inputs.enca.due with
        | none => rw [State.pairDue_eq, timed, other]; rfl
        | some t => rw [State.pairDue_eq, timed, other, Option.merge_some_some, Nat.min_eq_right (Nat.le_of_lt (later t other))]
      have only : ((s.axis a).inputs.line .enca).due ≠ some u := fun same => absurd (later u same) (Nat.lt_irrefl u)
      rw [execQuadratureTransition_of_due pair due, State.deliverChannel_later only, State.deliverChannel_now (i := .encb) timed]
      rfl
    · have pair : s.pairDue a = some t := by
        rw [State.pairDue_eq, timed, timed', Option.merge_some_some, Nat.min_self]
      have both : (((s.deliverInput a .enca).axis a).inputs.line .encb).due = some t := by
        rw [State.line_deliverInput_ne (by decide)]
        exact timed'
      rw [execQuadratureTransition_of_due pair due, State.deliverChannel_now (i := .enca) timed, State.deliverChannel_now both, State.deliverInput_eq,
        State.deliverInput_eq, State.axis_setAxis_self, State.setAxis_setAxis]
      rfl
    · refine congrArg Host.Outcome.next ?_
      rw [show s.pairDue a = none from by rw [State.pairDue_eq, idle, idle']; rfl]

end Sys2Proof.Machine

/-!
PROOF. The timers (R108, R161): SILENCE on its way to the axes, a frame taken as if it had reached them, and the break of a barrier.
-/

namespace Sys2Proof.Machine

/-! ## A fault cause leaves the marks of SILENCE -/

/-- The marks of SILENCE are those of before. -/
def State.marksSilence (s t : State) : Prop := ∀ b, (t.axis b).silencePending = (s.axis b).silencePending

section MarksSilence
variable {s t u : State} {a : AxisId}

theorem State.marksSilence.refl (s : State) : s.marksSilence s := fun _ => rfl

theorem State.marksSilence.trans (h : s.marksSilence t) (k : t.marksSilence u) : s.marksSilence u := fun b => (k b).trans (h b)

theorem State.changesTo.marksSilence {y : Axis} {reports : List ReportBody} {gone : List Segment} (h : s.changesTo a y reports gone t)
    (k : y.silencePending = (s.axis a).silencePending) : s.marksSilence t := fun b => by
  by_cases e : b = a
  · rw [e, h.axis, k]
  · rw [h.touches.2 b e]

theorem Axis.silencePending_departed (x : Axis) : x.departed.silencePending = x.silencePending := by
  unfold Axis.departed
  cases x.ctx <;> rfl

theorem State.marksSilence_modAxis (s : State) (a : AxisId) {f : Axis → Axis} (h : (f (s.axis a)).silencePending = (s.axis a).silencePending) :
    s.marksSilence (s.modAxis a f) := (s.changesTo_modAxis a f).marksSilence h

theorem State.marksSilence_completeActive (s : State) (a : AxisId) : s.marksSilence (s.completeActive a) :=
  (s.changesTo_completeActive a).marksSilence (Axis.silencePending_departed _)

theorem State.marksSilence_enterHeld (s : State) (a : AxisId) : s.marksSilence (s.enterHeld a) :=
  (s.changesTo_enterHeld a).marksSilence rfl

theorem State.marksSilence_reachReady (s : State) (a : AxisId) : s.marksSilence (s.reachReady a) :=
  (s.changesTo_reachReady a).marksSilence (Axis.silencePending_departed _)

theorem State.marksSilence_enterFault (s : State) (a : AxisId) (ena : Bool) : s.marksSilence (s.enterFault a ena) :=
  (s.changesTo_enterFault a ena).marksSilence (Axis.silencePending_departed _)

theorem State.marksSilence_withdraw (s : State) (a : AxisId) : s.marksSilence (s.withdraw a) := fun b => by rw [s.axis_withdraw]

theorem State.marksSilence_settleBrake (s : State) (a : AxisId) : s.marksSilence (s.settleBrake a) := by
  rcases s.settleBrake_cases a with e | ⟨c, -, -, -, e⟩ | ⟨u, from', ends⟩
  · rw [e]
    exact .refl s
  · rw [e]
    by_cases settle : c.phase = .settle
    · exact (State.changesTo_holdBrakeDone_of_settle rfl settle).marksSilence (Axis.silencePending_departed _)
    · exact (State.changesTo_holdBrakeDone_of_ne rfl settle).marksSilence rfl
  · have before : s.marksSilence u := by
      rcases from' with rfl | rfl
      · exact .refl _
      · exact s.marksSilence_completeActive a
    rcases ends with ⟨e, -, -⟩ | ⟨e, -⟩ | ⟨e, -⟩
    · rw [e]
      exact before.trans (u.marksSilence_enterHeld a)
    · rw [e]
      exact before.trans (u.marksSilence_reachReady a)
    · rw [e]
      exact before.trans (u.marksSilence_enterFault a _)

theorem State.marksSilence_raiseCause (s : State) (a : AxisId) (cause : Cause) : s.marksSilence (s.raiseCause a cause) := by
  have noted : s.marksSilence (s.noted a cause) := (s.changesTo_noted a cause).marksSilence rfl
  have first : s.marksSilence (s.firstCause a cause) := by
    rw [State.firstCause_eq]
    split
    · exact noted.trans ((State.marksSilence_withdraw _ a).trans (State.marksSilence_enterFault _ a _))
    · split
      · refine noted.trans (State.marksSilence.trans (State.marksSilence_modAxis _ a ?_) (State.marksSilence_settleBrake _ a))
        unfold Axis.enterFaultBrake
        rfl
      · exact noted.trans ((State.marksSilence_withdraw _ a).trans (State.marksSilence_enterFault _ a _))
  have later : s.marksSilence (s.laterCause a cause) := by
    have joined := s.marksSilence_modAxis a (f := fun x => { x with faultRecord := x.faultRecord.map (FaultRecord.add cause) }) rfl
    unfold State.laterCause
    dsimp only
    split
    · exact joined.trans (State.marksSilence_enterFault _ a _)
    · exact joined
  unfold State.raiseCause
  split
  · exact .refl s
  · exact later
  · exact later
  all_goals exact first

/-- An axis has taken its SILENCE; the others keep theirs. -/
theorem State.silencePending_takeSilence (s : State) (a b : AxisId) :
    ((s.takeSilence a).axis b).silencePending = if b = a then false else (s.axis b).silencePending := by
  unfold State.takeSilence
  split
  · rw [State.marksSilence_raiseCause _ a .silence b, State.axis_modAxis]
    split
    · next e => rfl
    · rfl
  · next idle =>
    split
    · next e => rw [e]; exact Bool.not_eq_true _ ▸ idle
    · rfl

theorem State.silencePending_takeSilences (s : State) (a : AxisId) : (s.takeSilences.axis a).silencePending = false := by
  rw [State.takeSilences]
  simp only [State.silencePending_takeSilence]
  fin_cases a <;> simp

/-! ## A frame taken with SILENCE on its way -/

theorem State.takeSilences_takeSilences (s : State) : s.takeSilences.takeSilences = s.takeSilences :=
  State.takeSilences_of_none s.silencePending_takeSilences

theorem State.decoderReady_takeSilences (s : State) : s.takeSilences.decoderReady = s.decoderReady := by
  rw [State.decoderReady, State.decoderReady, s.motionOnly_takeSilences.link, s.motionOnly_takeSilences.power]

theorem State.isDuplicate_takeSilences (s : State) (f : Frame) : s.takeSilences.isDuplicate f = s.isDuplicate f := by
  rw [State.isDuplicate, State.isDuplicate, s.motionOnly_takeSilences.link]

/-- A request that is taken is taken as if every axis had taken its SILENCE before. -/
theorem State.takeRequest_takeSilences {f : Frame} {rest : List Frame} {code : Byte} (h : Handler) (buffer : s.link.rxBuffer = f :: rest)
    (ready : s.decoderReady = true) (new : s.isDuplicate f = false) (c : f.code = code) :
    s.takeRequest code h = s.takeSilences.takeRequest code h := by
  have taken : (s.decoderReady && !s.isDuplicate f && decide (f.code = code)) = true := by simp [ready, new, c]
  rw [State.takeRequest, State.takeRequest, s.motionOnly_takeSilences.link, buffer]
  dsimp only
  rw [s.decoderReady_takeSilences, s.isDuplicate_takeSilences, if_pos taken, if_pos taken, s.takeSilences_takeSilences]

theorem State.takeUnknown_takeSilences {f : Frame} {rest : List Frame} (buffer : s.link.rxBuffer = f :: rest)
    (ready : s.decoderReady = true) (new : s.isDuplicate f = false) (c : requestCodes.contains f.code = false) :
    s.takeUnknown = s.takeSilences.takeUnknown := by
  have taken : (s.decoderReady && !s.isDuplicate f && !requestCodes.contains f.code) = true := by simp only [ready, new, c]; rfl
  rw [State.takeUnknown, State.takeUnknown, s.motionOnly_takeSilences.link, buffer]
  dsimp only
  rw [s.decoderReady_takeSilences, s.isDuplicate_takeSilences, if_pos taken, if_pos taken, s.takeSilences_takeSilences]

theorem State.takeDuplicate_takeSilences {f : Frame} {rest : List Frame} (buffer : s.link.rxBuffer = f :: rest)
    (ready : s.decoderReady = true) (dup : s.isDuplicate f = true) : s.takeDuplicate = s.takeSilences.takeDuplicate := by
  have taken : (s.decoderReady && s.isDuplicate f) = true := by simp [ready, dup]
  rw [State.takeDuplicate, State.takeDuplicate, s.motionOnly_takeSilences.link, buffer]
  dsimp only
  rw [s.decoderReady_takeSilences, s.isDuplicate_takeSilences, if_pos taken, if_pos taken, s.takeSilences_takeSilences]

/-- The handler of a request, by its code (R181). -/
def requestHandler : Instr → Option (Byte × Handler)
  | .loadSegments => some (0x10, loadSegments)
  | .trimQueue => some (0x11, trimQueue)
  | .flushQueue => some (0x12, flushQueue)
  | .configureQueue => some (0x13, configureQueue)
  | .enableAxis => some (0x20, enableAxis)
  | .disableAxis => some (0x21, disableAxis)
  | .startAxis => some (0x22, startAxis)
  | .holdAxis => some (0x23, holdAxis)
  | .resumeAxis => some (0x24, resumeAxis)
  | .stopAxis => some (0x25, stopAxis)
  | .setPosition => some (0x26, setPosition)
  | .defineGroup => some (0x30, defineGroup)
  | .readGroupStatus => some (0x31, readGroupStatus)
  | .configureProtection => some (0x38, configureProtection)
  | .clearFault => some (0x39, clearFault)
  | .configureReports => some (0x40, configureReports)
  | .acknowledgeReports => some (0x41, acknowledgeReports)
  | .replayReports => some (0x42, replayReports)
  | .configureLink => some (0x50, configureLink)
  | .readLinkStatus => some (0x51, readLinkStatus)
  | .resetDevice => some (0x52, resetDevice)
  | .noOperation => some (0x53, noOperation)
  | .configureAxis => some (0x60, configureAxis)
  | .readAxisStatus => some (0x61, readAxisStatus)
  | .readDeviceInfo => some (0x62, readDeviceInfo)
  | _ => none

/-- A command with a handler takes a request. -/
theorem exec_of_requestHandler {i : Instr} {code : Byte} {h : Handler} (e : requestHandler i = some (code, h)) (s : State) :
    exec i s = .next (s.takeRequest code h) := by
  cases i <;> cases e <;> rfl

/-- Every row of the command table has its handler. -/
theorem requestTable_handler : ∀ r ∈ requestTable, ∃ h, requestHandler r.2 = some (r.1, h) := by
  simp only [requestTable, List.cons_append, List.nil_append, List.forall_mem_cons]
  refine ⟨⟨_, rfl⟩, ⟨_, rfl⟩, ⟨_, rfl⟩, ⟨_, rfl⟩, ⟨_, rfl⟩, ⟨_, rfl⟩, ⟨_, rfl⟩, ⟨_, rfl⟩, ⟨_, rfl⟩, ⟨_, rfl⟩, ⟨_, rfl⟩, ⟨_, rfl⟩,
    ⟨_, rfl⟩, ⟨_, rfl⟩, ⟨_, rfl⟩, ⟨_, rfl⟩, ⟨_, rfl⟩, ⟨_, rfl⟩, ⟨_, rfl⟩, ⟨_, rfl⟩, ⟨_, rfl⟩, ⟨_, rfl⟩, ⟨_, rfl⟩, ⟨_, rfl⟩, ⟨_, rfl⟩, ?_⟩
  simp

theorem requestTable_codes : requestTable.map (·.1) = requestCodes := rfl

/-- What the decoder takes a frame by. -/
theorem State.requestOf_cases (s : State) (f : Frame) :
    s.isDuplicate f = true ∧ s.requestOf f = .duplicate
      ∨ s.isDuplicate f = false ∧ (∃ h, requestHandler (s.requestOf f) = some (f.code, h))
      ∨ s.isDuplicate f = false ∧ requestCodes.contains f.code = false ∧ s.requestOf f = .unknownRequest := by
  cases dup : s.isDuplicate f
  · refine .inr ?_
    have other : s.requestOf f = ((requestTable.find? (fun r => r.1 = f.code)).map (·.2)).getD .unknownRequest :=
      if_neg (by simp [dup])
    rw [other]
    cases row : requestTable.find? (fun r => r.1 = f.code) with
    | none =>
      refine .inr ⟨rfl, ?_, rfl⟩
      rw [List.find?_eq_none] at row
      rw [← requestTable_codes, List.contains_eq_mem, decide_eq_false_iff_not, List.mem_map]
      rintro ⟨r, mem, same⟩
      exact row r mem (by simpa using same)
    | some r =>
      obtain ⟨h, e⟩ := requestTable_handler r (List.mem_of_find?_eq_some row)
      have code : r.1 = f.code := by simpa using List.find?_some row
      exact .inl ⟨rfl, h, by rw [← code]; exact e⟩
  · exact .inl ⟨rfl, if_pos dup⟩

theorem exec_requestOf_takeSilences {f : Frame} {rest : List Frame} (buffer : s.link.rxBuffer = f :: rest)
    (ready : s.decoderReady = true) : exec (s.requestOf f) s = exec (s.requestOf f) s.takeSilences := by
  rcases s.requestOf_cases f with ⟨dup, e⟩ | ⟨new, h, e⟩ | ⟨new, unknown, e⟩
  · rw [e]
    exact congrArg Host.Outcome.next (State.takeDuplicate_takeSilences buffer ready dup)
  · rw [exec_of_requestHandler e, exec_of_requestHandler e, State.takeRequest_takeSilences h buffer ready new rfl]
  · rw [e]
    exact congrArg Host.Outcome.next (State.takeUnknown_takeSilences buffer ready new unknown)

end MarksSilence

/-! ## The expiries -/

section Expiries
variable {s : State} {t : Nat}

theorem execSilenceTimerExpiry_of_due (runs : s.link.silenceTimer = some t) (due : t ≤ s.micros) :
    exec .silenceTimerExpiry s = .next ((s.modAxes fun _ x =>
      { x with silencePending := x.silencePending || x.st.supervised }).modLink fun l => { l with silenceTimer := none }) := by
  refine congrArg Host.Outcome.next ?_
  rw [runs]
  dsimp only
  rw [s.passToMicros_of_le due]

theorem AxisState.supervised_iff (st : AxisState) :
    st.supervised = true ↔ st ∈ ([.run, .gate, .holding, .held, .stopping, .faultBrake] : List AxisState) := by
  cases st <;> decide

theorem Axis.supervised_eq (x : Axis) : { x with silencePending := x.silencePending || x.st.supervised } =
    if x.st ∈ ([.run, .gate, .holding, .held, .stopping, .faultBrake] : List AxisState) then { x with silencePending := true } else x := by
  by_cases supervised : x.st.supervised = true
  · rw [if_pos (x.st.supervised_iff.mp supervised), supervised, Bool.or_true]
  · rw [if_neg fun mem => supervised (x.st.supervised_iff.mpr mem), Bool.eq_false_iff.mpr supervised, Bool.or_false]

theorem execBarrierTimerExpiry_of_due {g : GroupId} (runs : (s.group g).timer = some t) (due : t ≤ s.micros) :
    exec (.barrierTimerExpiry g) s = .next (s.breakGroup g) := by
  refine congrArg Host.Outcome.next ?_
  rw [runs]
  dsimp only
  rw [s.passToMicros_of_le due]

end Expiries

/-- Settles O45. -/
theorem timersReachTheirAxes : Obligations.TimersReachTheirAxes := by
  refine ⟨fun s t runs due => ⟨_, execSilenceTimerExpiry_of_due runs due, fun a => ?_, rfl⟩, fun s a pending => ?_, ?_, ?_⟩
  · rw [State.axis_modLink, State.axis_modAxes]
    exact Axis.supervised_eq _
  · exact congrArg Host.Outcome.next (if_pos pending)
  · intro s t₀ t₁ t₂ t₃ f rest on buffer slot pending h₀ h₁ h₂ h₃
    cases h₀
    cases h₁
    cases h₂
    cases h₃
    have ready : s.decoderReady = true := by simp [State.decoderReady, on, slot, pending]
    exact ⟨exec_requestOf_takeSilences buffer ready, s.motionOnly_takeSilences.link, s.silencePending_takeSilences⟩
  · rintro s g t x rfl runs due
    refine ⟨_, execBarrierTimerExpiry_of_due runs due, s.axis_breakGroup g, ?_, fun h ne => ?_, rfl, rfl⟩
    · rw [State.group_breakGroup, if_pos rfl]
    · rw [State.group_breakGroup, if_neg ne]

end Sys2Proof.Machine

/-!
PROOF. What an idle block does (log 2): which events are due, and the passing of time (R43, R175).
-/

namespace Sys2Proof.Machine

/-! ## The commands by which a frame is taken -/

/-- A command by which the decoder takes a frame. -/
def takesFrame : Instr → Bool
  | .duplicate | .unknownRequest => true
  | c => (requestHandler c).isSome

theorem takesFrame_of_handler {c : Instr} {r : Byte × Handler} (e : requestHandler c = some r) : takesFrame c = true := by
  cases c <;> first | rfl | cases e

/-- The row of the command table of a request. -/
theorem requestTable_find {c : Instr} {code : Byte} {h : Handler} (e : requestHandler c = some (code, h)) :
    requestTable.find? (fun r => r.1 = code) = some (code, c) ∧ requestCodes.contains code = true := by
  cases c <;> cases e <;> exact ⟨rfl, rfl⟩

section RequestCommands
variable {s : State} {c : Instr} {f : Frame}

theorem State.takesFrame_requestOf (s : State) (f : Frame) : takesFrame (s.requestOf f) = true := by
  rcases s.requestOf_cases f with ⟨-, e⟩ | ⟨-, h, e⟩ | ⟨-, -, e⟩
  · rw [e]; rfl
  · exact takesFrame_of_handler e
  · rw [e]; rfl

theorem State.requestOf_eq_handler_iff {code : Byte} {h : Handler} (e : requestHandler c = some (code, h)) :
    c = s.requestOf f ↔ s.isDuplicate f = false ∧ f.code = code := by
  rcases s.requestOf_cases f with ⟨dup, r⟩ | ⟨new, h', r⟩ | ⟨new, unknown, r⟩
  · refine iff_of_false (fun same => ?_) fun fresh => by simp [dup] at fresh
    rw [same, r] at e
    cases e
  · refine ⟨fun same => ⟨new, ?_⟩, fun fresh => ?_⟩
    · rw [← same, e] at r
      cases r
      rfl
    · have row := (requestTable_find e).1.symm.trans (fresh.2 ▸ (requestTable_find r).1)
      rw [Option.some.injEq, Prod.mk.injEq] at row
      exact row.2
  · refine iff_of_false (fun same => ?_) fun fresh => ?_
    · rw [same, r] at e
      cases e
    · rw [fresh.2, (requestTable_find e).2] at unknown
      cases unknown

theorem State.requestOf_eq_duplicate_iff : .duplicate = s.requestOf f ↔ s.isDuplicate f = true := by
  rcases s.requestOf_cases f with ⟨dup, r⟩ | ⟨new, h, r⟩ | ⟨new, -, r⟩
  · exact iff_of_true r.symm dup
  · refine iff_of_false (fun same => ?_) (by simp [new])
    rw [← same] at r
    cases r
  · refine iff_of_false (fun same => ?_) (by simp [new])
    rw [← same] at r
    cases r

theorem State.requestOf_eq_unknown_iff : .unknownRequest = s.requestOf f ↔ s.isDuplicate f = false ∧ f.code ∉ requestCodes := by
  rcases s.requestOf_cases f with ⟨dup, r⟩ | ⟨new, h, r⟩ | ⟨new, unknown, r⟩
  · refine iff_of_false (fun same => ?_) (by simp [dup])
    rw [← same] at r
    cases r
  · refine iff_of_false (fun same => ?_) fun fresh => ?_
    · rw [← same] at r
      cases r
    · exact fresh.2 (by simpa using (requestTable_find r).2)
  · exact iff_of_true r.symm ⟨new, by simpa using unknown⟩

/-! ## The lists of due events -/

theorem State.mem_linkDue : c ∈ s.linkDue ↔
    (∃ f rest, s.link.rxBuffer = f :: rest ∧ s.decoderReady = true ∧ c = s.requestOf f)
      ∨ (s.link.tx = none ∧ s.link.replyWaits = true ∧ c = .replyFrameBegin)
      ∨ (s.link.tx = none ∧ s.reportToSend.isSome = true ∧ c = .reportFrameBegin)
      ∨ (∃ t, s.link.tx = some t ∧ t.kind = .reply ∧ t.doneAt ≤ s.clock ∧ c = .replyFrameEnd)
      ∨ (∃ t, s.link.tx = some t ∧ t.kind = .report ∧ t.doneAt ≤ s.clock ∧ c = .reportFrameEnd)
      ∨ (reached s.micros s.reports.timer = true ∧ c = .retransmitTimerExpiry)
      ∨ (reached s.micros s.link.silenceTimer = true ∧ c = .silenceTimerExpiry)
      ∨ (reached s.clock s.gapDue = true ∧ c = .frameTimeout) := by
  have buffer : (c ∈ match s.link.rxBuffer with
      | [] => []
      | f :: _ => dueIf s.decoderReady (s.requestOf f)) ↔
      ∃ f rest, s.link.rxBuffer = f :: rest ∧ s.decoderReady = true ∧ c = s.requestOf f := by
    cases s.link.rxBuffer <;> simp
  unfold State.linkDue
  simp only [List.mem_append, or_assoc]
  refine or_congr buffer ?_
  cases tx : s.link.tx with
  | none => simp [or_assoc]
  | some t => cases kind : t.kind <;> simp [kind]

theorem State.mem_sharedDue : c ∈ s.sharedDue ↔
    (∃ g, reached s.micros (s.group g).timer = true ∧ c = .barrierTimerExpiry g) ∨ (reached s.clock s.trip.due = true ∧ c = .tripChange) := by
  unfold State.sharedDue
  simp only [List.mem_append, List.mem_flatMap, mem_dueIf]
  refine or_congr_left ⟨fun ⟨g, _, h⟩ => ⟨g, h⟩, fun ⟨g, h⟩ => ⟨g, ?_, h⟩⟩
  fin_cases g <;> simp

/-- What makes an event of an axis due. -/
def State.axisDueIf (s : State) (a : AxisId) : Instr → Bool
  | .stepDue _ => reached s.clock (s.axis a).stepDueAt
  | .delayedStepIssue _ => (s.axis a).stepping && reached s.clock ((s.axis a).ctx.bind (·.delayed))
  | .stepPulseEnd _ => (s.axis a).output.high && (s.axis a).output.pulseEnd ≤ s.clock
  | .dwellExpiry _ => (s.axis a).dwellRunning = some 0
  | .limitInputChange _ .positive => reached s.clock (s.inputDue a .limp)
  | .limitInputChange _ .negative => reached s.clock (s.inputDue a .limn)
  | .dfltChange _ => reached s.clock (s.inputDue a .dflt)
  | .homeInputChange _ => reached s.clock (s.inputDue a .home) && !(s.axis a).watches .home ((s.axis a).nextActive .home)
  | .seekTriggerEdge _ => (s.axis a).triggerPending
      || (reached s.clock (s.inputDue a .home) && (s.axis a).watches .home ((s.axis a).nextActive .home))
      || (reached s.clock (s.inputDue a .enci) && (s.axis a).watches .index ((s.axis a).nextActive .enci)
        && !(s.axis a).encoder.edgePending)
  | .indexEdge _ => (s.axis a).encoder.edgePending || reached s.clock (s.inputDue a .enci)
  | .quadratureTransition _ => reached s.clock (s.pairDue a)
  | .tripCause _ => (s.axis a).tripPending
  | .silenceCause _ => (s.axis a).silencePending
  | _ => false

/-- The axis of an event of an axis. -/
def axisEvents (a : AxisId) : List Instr :=
  [.stepDue a, .delayedStepIssue a, .stepPulseEnd a, .dwellExpiry a, .limitInputChange a .positive, .limitInputChange a .negative,
    .dfltChange a, .homeInputChange a, .seekTriggerEdge a, .indexEdge a, .quadratureTransition a, .tripCause a, .silenceCause a]

theorem State.axisDue_eq (s : State) (a : AxisId) :
    s.axisDue a = (axisEvents a).flatMap fun c => dueIf (s.axisDueIf a c) c := by
  simp only [State.axisDue, axisEvents, List.flatMap_cons, List.flatMap_nil, List.append_nil, List.append_assoc]
  rfl

theorem State.mem_axisDue {a : AxisId} : c ∈ s.axisDue a ↔ c ∈ axisEvents a ∧ s.axisDueIf a c = true := by
  rw [State.axisDue_eq, List.mem_flatMap]
  constructor
  · rintro ⟨d, mem, due⟩
    obtain ⟨h, rfl⟩ := mem_dueIf.mp due
    exact ⟨mem, h⟩
  · exact fun ⟨mem, h⟩ => ⟨c, mem, mem_dueIf.mpr ⟨h, rfl⟩⟩

theorem takesFrame_axisEvents {a : AxisId} (mem : c ∈ axisEvents a) : takesFrame c = false := by
  simp only [axisEvents, List.mem_cons, List.not_mem_nil, or_false] at mem
  rcases mem with rfl | rfl | rfl | rfl | rfl | rfl | rfl | rfl | rfl | rfl | rfl | rfl | rfl <;> rfl

/-- A frame's command is due when the decoder can take the frame. -/
theorem State.mem_dueEvents_of_takesFrame (takes : takesFrame c = true) : c ∈ s.dueEvents ↔
    ∃ f rest, s.link.rxBuffer = f :: rest ∧ s.decoderReady = true ∧ c = s.requestOf f := by
  rw [State.mem_dueEvents, State.mem_linkDue, State.mem_sharedDue]
  refine ⟨fun due => ?_, fun frame => .inl (.inl frame)⟩
  rcases due with (frame | ⟨-, -, rfl⟩ | ⟨-, -, rfl⟩ | ⟨-, -, -, -, rfl⟩ | ⟨-, -, -, -, rfl⟩ | ⟨-, rfl⟩ | ⟨-, rfl⟩ | ⟨-, rfl⟩)
    | (⟨g, -, rfl⟩ | ⟨-, rfl⟩) | ⟨a, mem⟩
  · exact frame
  case inr.inr => rw [takesFrame_axisEvents (State.mem_axisDue.mp mem).1] at takes; cases takes
  all_goals cases takes

/-- The other events are due by the link's, the groups' or an axis's own state. -/
theorem State.mem_dueEvents_of_event (event : takesFrame c = false) : c ∈ s.dueEvents ↔
    (s.link.tx = none ∧ s.link.replyWaits = true ∧ c = .replyFrameBegin)
      ∨ (s.link.tx = none ∧ s.reportToSend.isSome = true ∧ c = .reportFrameBegin)
      ∨ (∃ t, s.link.tx = some t ∧ t.kind = .reply ∧ t.doneAt ≤ s.clock ∧ c = .replyFrameEnd)
      ∨ (∃ t, s.link.tx = some t ∧ t.kind = .report ∧ t.doneAt ≤ s.clock ∧ c = .reportFrameEnd)
      ∨ (reached s.micros s.reports.timer = true ∧ c = .retransmitTimerExpiry)
      ∨ (reached s.micros s.link.silenceTimer = true ∧ c = .silenceTimerExpiry)
      ∨ (reached s.clock s.gapDue = true ∧ c = .frameTimeout)
      ∨ (∃ g, reached s.micros (s.group g).timer = true ∧ c = .barrierTimerExpiry g)
      ∨ (reached s.clock s.trip.due = true ∧ c = .tripChange)
      ∨ ∃ a, c ∈ axisEvents a ∧ s.axisDueIf a c = true := by
  have none : ¬∃ f rest, s.link.rxBuffer = f :: rest ∧ s.decoderReady = true ∧ c = s.requestOf f := fun ⟨f, _, _, _, e⟩ => by
    rw [e, s.takesFrame_requestOf] at event
    cases event
  rw [State.mem_dueEvents, State.mem_linkDue, State.mem_sharedDue]
  simp only [none, false_or, or_assoc, State.mem_axisDue]

/-- An event of an axis is due by that axis. -/
theorem State.mem_dueEvents_of_axis {a : AxisId} (mem : c ∈ axisEvents a) : c ∈ s.dueEvents ↔ s.axisDueIf a c = true := by
  have only : ∀ b, c ∈ axisEvents b → b = a := fun b other => by
    simp only [axisEvents, List.mem_cons, List.not_mem_nil, or_false] at mem
    rcases mem with rfl | rfl | rfl | rfl | rfl | rfl | rfl | rfl | rfl | rfl | rfl | rfl | rfl <;> simpa [axisEvents, eq_comm] using other
  rw [State.mem_dueEvents]
  refine ⟨fun due => ?_, fun due => .inr (.inr ⟨a, State.mem_axisDue.mpr ⟨mem, due⟩⟩)⟩
  rcases (State.mem_dueEvents_of_event (takesFrame_axisEvents mem)).mp (State.mem_dueEvents.mpr due) with
    ⟨-, -, rfl⟩ | ⟨-, -, rfl⟩ | ⟨-, -, -, -, rfl⟩ | ⟨-, -, -, -, rfl⟩ | ⟨-, rfl⟩ | ⟨-, rfl⟩ | ⟨-, rfl⟩ | ⟨g, -, rfl⟩ | ⟨-, rfl⟩
      | ⟨b, other, h⟩
  case inr.inr.inr.inr.inr.inr.inr.inr.inr => rwa [only b other] at h
  all_goals simp [axisEvents] at mem

end RequestCommands

/-! ## When they are due, in the words of the statement -/

section DueWords
variable {s : State} {a : AxisId}

theorem State.frameWaits_iff (s : State) (f : Frame) :
    s.frameWaits f ↔ (∃ rest, s.link.rxBuffer = f :: rest) ∧ s.decoderReady = true := by
  unfold State.frameWaits State.decoderReady
  cases s.link.rxBuffer with
  | nil => simp
  | cons f' rest => cases s.link.replySlot <;> simp [and_comm, and_assoc, and_left_comm]

theorem State.isDuplicate_eq_false_iff (s : State) (f : Frame) :
    s.isDuplicate f = false ↔ (s.link.dup.valid = true → s.link.dup.seq ≠ f.seq) := by
  cases v : s.link.dup.valid <;> simp [State.isDuplicate, v]

theorem State.isDuplicate_iff (s : State) (f : Frame) :
    s.isDuplicate f = true ↔ s.link.dup.valid = true ∧ s.link.dup.seq = f.seq := by simp [State.isDuplicate]

/-- A request is due when one with its code waits. -/
theorem State.mem_dueEvents_request {c : Instr} {code : Byte} {h : Handler} (e : requestHandler c = some (code, h)) :
    c ∈ s.dueEvents ↔ s.requestWaits code := by
  rw [State.mem_dueEvents_of_takesFrame (takesFrame_of_handler e)]
  simp only [State.requestWaits, State.frameWaits_iff, State.requestOf_eq_handler_iff e, State.isDuplicate_eq_false_iff]
  exact ⟨fun ⟨f, rest, b, r, n, c⟩ => ⟨f, ⟨⟨rest, b⟩, r⟩, n, c⟩, fun ⟨f, ⟨⟨rest, b⟩, r⟩, n, c⟩ => ⟨f, rest, b, r, n, c⟩⟩

theorem State.mem_dueEvents_unknown :
    .unknownRequest ∈ s.dueEvents ↔ ∃ code, code ∉ requestCodes ∧ s.requestWaits code := by
  rw [State.mem_dueEvents_of_takesFrame rfl]
  simp only [State.requestWaits, State.frameWaits_iff, State.requestOf_eq_unknown_iff, State.isDuplicate_eq_false_iff]
  exact ⟨fun ⟨f, rest, b, r, n, c⟩ => ⟨f.code, c, f, ⟨⟨rest, b⟩, r⟩, n, rfl⟩,
    fun ⟨code, c, f, ⟨⟨rest, b⟩, r⟩, n, e⟩ => ⟨f, rest, b, r, n, e ▸ c⟩⟩

theorem State.mem_dueEvents_duplicate :
    .duplicate ∈ s.dueEvents ↔ ∃ f, s.frameWaits f ∧ s.link.dup.valid = true ∧ s.link.dup.seq = f.seq := by
  rw [State.mem_dueEvents_of_takesFrame rfl]
  simp only [State.frameWaits_iff, State.requestOf_eq_duplicate_iff, State.isDuplicate_iff]
  exact ⟨fun ⟨f, rest, b, r, d⟩ => ⟨f, ⟨⟨rest, b⟩, r⟩, d⟩, fun ⟨f, ⟨⟨rest, b⟩, r⟩, d⟩ => ⟨f, rest, b, r, d⟩⟩

theorem Link.replyWaits_iff (l : Link) : l.replyWaits = true ↔ ∃ r, l.replySlot = some ⟨r, false⟩ := by
  unfold Link.replyWaits
  cases l.replySlot with
  | none => simp
  | some slot =>
    obtain ⟨r, begun⟩ := slot
    cases begun <;> simp

theorem ReportUnit.offered_isSome_iff (r : ReportUnit) : r.offered.isSome = true ↔
    r.streaming = true ∧ r.inFlightCount < r.window ∧ ∃ e ∈ r.queue, e.inFlight = false := by
  unfold ReportUnit.offered
  split
  · next h =>
    simp only [Bool.and_eq_true, decide_eq_true_eq] at h
    simp [h.1, h.2, List.find?_isSome]
  · next h =>
    simp only [Bool.and_eq_true, decide_eq_true_eq] at h
    refine iff_of_false (by simp) fun k => h ⟨k.1, k.2.1⟩

theorem State.reportToSend_isSome_iff (tx : s.link.tx = none) : s.reportToSend.isSome = true ↔
    (∀ r, s.link.replySlot ≠ some ⟨r, false⟩) ∧ s.reports.streaming = true ∧ s.reports.inFlightCount < s.reports.window
      ∧ ∃ e ∈ s.reports.queue, e.inFlight = false := by
  rw [State.reportToSend, tx]
  cases waits : s.link.replyWaits
  · have none : ∀ r, s.link.replySlot ≠ some ⟨r, false⟩ := fun r e => by
      rw [(s.link.replyWaits_iff).mpr ⟨r, e⟩] at waits
      cases waits
    rw [← ReportUnit.offered_isSome_iff]
    simp [none]
  · obtain ⟨r, e⟩ := (s.link.replyWaits_iff).mp waits
    exact iff_of_false (by simp) fun k => k.1 r e

theorem Axis.stepping_of_ctx {x : Axis} {k : Ctx} (ctx : x.ctx = some k) : x.stepping = true ↔
    x.st ∈ ([.run, .holding, .stopping, .faultBrake] : List AxisState) ∧ k.seg.body.makesSteps = true := by
  rw [Axis.stepping_iff]
  simp [ctx]

theorem Ctx.makesSteps_of_hasNextStep {k : Ctx} (h : k.hasNextStep = true) : k.seg.body.makesSteps = true := by
  unfold Ctx.hasNextStep at h
  simp only [Bool.and_eq_true] at h
  exact h.1.1

theorem Axis.stepDueAt_iff (x : Axis) (now : Nat) : reached now x.stepDueAt = true ↔
    ∃ k, x.ctx = some k ∧ x.st ∈ ([.run, .holding, .stopping, .faultBrake] : List AxisState)
      ∧ k.hasNextStep = true ∧ k.delayed = none ∧ k.nextDue x.settings ≤ now := by
  unfold Axis.stepDueAt
  cases ctx : x.ctx with
  | none => simp [reached]
  | some k =>
    simp only [Option.some.injEq, exists_eq_left']
    split
    · next h =>
      simp only [Bool.and_eq_true, Option.isNone_iff_eq_none, Axis.stepping_of_ctx ctx] at h
      obtain ⟨⟨⟨st, -⟩, next⟩, free⟩ := h
      simp [reached, st, next, free]
    · next h =>
      refine iff_of_false (by simp [reached]) fun ⟨st, next, free, _⟩ => h ?_
      simp only [Bool.and_eq_true, Option.isNone_iff_eq_none, Axis.stepping_of_ctx ctx]
      exact ⟨⟨⟨st, Ctx.makesSteps_of_hasNextStep next⟩, next⟩, free⟩

theorem Axis.delayedDue_iff (x : Axis) (now : Nat) : (x.stepping && reached now (x.ctx.bind (·.delayed))) = true ↔
    ∃ k t, x.ctx = some k ∧ k.seg.body.makesSteps = true
      ∧ x.st ∈ ([.run, .holding, .stopping, .faultBrake] : List AxisState) ∧ k.delayed = some t ∧ t ≤ now := by
  cases ctx : x.ctx with
  | none => simp [reached]
  | some k =>
    rw [Bool.and_eq_true, Axis.stepping_of_ctx ctx, reached_iff]
    simp only [Option.bind_some, Option.some.injEq]
    refine ⟨fun ⟨⟨st, steps⟩, t, d, h⟩ => ⟨k, t, rfl, steps, st, d, h⟩, ?_⟩
    rintro ⟨_, t, rfl, steps, st, d, h⟩
    exact ⟨⟨st, steps⟩, t, d, h⟩

theorem Axis.dwellRunning_iff (x : Axis) (n : Nat) :
    x.dwellRunning = some n ↔ ∃ k, x.ctx = some k ∧ x.st = .run ∧ k.phase = .timing ∧ k.dwellLeft = n := by
  unfold Axis.dwellRunning
  cases x.ctx with
  | none => simp
  | some k =>
    simp only [Option.some.injEq, exists_eq_left']
    split
    · next h =>
      simp only [Bool.and_eq_true, decide_eq_true_eq] at h
      simp [h.1, h.2]
    · next h =>
      simp only [Bool.and_eq_true, decide_eq_true_eq] at h
      exact iff_of_false (by simp) fun k => h ⟨k.1, k.2.1⟩

theorem State.inputDue_iff (s : State) (a : AxisId) (i : AxisInput) : reached s.clock (s.inputDue a i) = true ↔ s.deliveryDue a i :=
  reached_iff

theorem State.pairDue_iff (s : State) (a : AxisId) :
    reached s.clock (s.pairDue a) = true ↔ s.deliveryDue a .enca ∨ s.deliveryDue a .encb := by
  rw [← State.inputDue_iff, ← State.inputDue_iff, State.pairDue_eq]
  show _ ↔ reached s.clock (s.axis a).inputs.enca.due = true ∨ reached s.clock (s.axis a).inputs.encb.due = true
  cases (s.axis a).inputs.enca.due <;> cases (s.axis a).inputs.encb.due <;> simp [reached]

theorem Axis.triggerPending_iff (x : Axis) : x.triggerPending = true ↔
    (x.st = .run ∨ x.st = .holding) ∧ ∃ k, x.ctx = some k ∧ k.edgePending = true ∧ k.watch = some .opened := by
  unfold Axis.triggerPending
  cases x.ctx <;> simp

theorem State.gapDue_iff (s : State) :
    reached s.clock s.gapDue = true ↔ ∃ t, s.link.gapStart = some t ∧ t + 8001 + lineTime s.baud.lineRate 1 ≤ s.clock := by
  unfold State.gapDue
  cases s.link.gapStart <;> simp [reached, Config.gapLimit]

end DueWords

/-! ## The choice and the passing of time -/

section ChoiceOfEvents
variable {s : State}

theorem step_of_idle (idle : s.pending = []) (on : s.power = .on) : step s = match s.dueEvents with
    | [] => .next s.tick
    | [c] => exec c s
    | c :: d :: cs => exec (s.chosen c (d :: cs)) { s with freeCount := s.freeCount + 1 } := by
  exact (show step s = s.idle by rw [step, idle]).trans (if_pos on)

theorem State.chosen_mem (s : State) (c : Instr) (cs : List Instr) : s.chosen c cs ∈ c :: cs := by
  have inside : Config.freeChoice s.freeCount % (cs.length + 1) < (c :: cs).length := Nat.mod_lt _ (Nat.succ_pos cs.length)
  rw [State.chosen, List.getD_eq_getElem _ _ inside]
  exact List.getElem_mem _

theorem Axis.spend_eq (us : Nat) (x : Axis) : x.spend us = { x with
    ctx := x.ctx.map fun c => if c.phase = .timing then { c with dwellLeft := c.dwellLeft - us } else c } := by
  rcases x with ⟨st, queue, quota, threshold, _ | c⟩
  · rfl
  · by_cases timing : c.phase = .timing <;> simp [Axis.spend, timing]

theorem State.axis_passTo_eq {q : Nat} (future : s.clock ≤ q) (a : AxisId) :
    (s.passTo q).axis a = (s.axis a).spend (q / 4 - s.clock / 4) := by
  rw [State.axis_passTo]
  split
  · rfl
  · next now =>
    have same : q = s.clock := by omega
    have still : ∀ c : Ctx, (if c.phase = .timing then { c with dwellLeft := c.dwellLeft - 0 } else c) = c := fun c => by
      split <;> rfl
    rw [same, Nat.sub_self, Axis.spend_eq]
    simp only [still, Option.map_id']

theorem State.passTo_frame {q : Nat} (future : s.clock ≤ q) : s.passTo q = { s with clock := q, axes := (s.passTo q).axes } := by
  unfold State.passTo
  split
  · rfl
  · next now =>
    have same : q = s.clock := by omega
    rw [same]

theorem State.deviceTime_passTo {q : Nat} (future : s.clock ≤ q) :
    (s.passTo q).deviceTime = s.deviceTime + BitVec.ofNat 32 (q / 4 - s.clock / 4) := by
  have now : (s.passTo q).clock = q := by rw [State.passTo_frame future]
  rw [State.deviceTime, State.micros, now, State.deviceTime, State.micros, ← BitVec.ofNat_add]
  congr 1
  have : s.clock / 4 ≤ q / 4 := Nat.div_le_div_right future
  show q / 4 = s.clock / 4 + (q / 4 - s.clock / 4)
  omega

end ChoiceOfEvents

/-- Settles O2. -/
theorem idleBlockActsOfItself : Obligations.IdleBlockActsOfItself := by
  refine ⟨fun s idle => ⟨fun off => step_of_off off idle, fun on none => ?_, fun c on one => ?_, fun c d cs on several => ?_⟩,
    fun s c => ?_, fun s => ⟨rfl, rfl⟩, ?_⟩
  · rw [step_of_idle idle on, none]
    rfl
  · rw [step_of_idle idle on, one]
  · refine ⟨s.chosen c (d :: cs), s.chosen_mem c _, ?_⟩
    rw [step_of_idle idle on, several]
  · cases c
    case unknownRequest => exact State.mem_dueEvents_unknown
    case duplicate => exact State.mem_dueEvents_duplicate
    case replyFrameBegin => exact (State.mem_dueEvents_of_event rfl).trans (by simp [axisEvents, Link.replyWaits_iff])
    case reportFrameBegin =>
      refine (State.mem_dueEvents_of_event rfl).trans (Iff.trans (by simp [axisEvents]) (and_congr_right State.reportToSend_isSome_iff))
    case replyFrameEnd => exact (State.mem_dueEvents_of_event rfl).trans (by simp [axisEvents])
    case reportFrameEnd => exact (State.mem_dueEvents_of_event rfl).trans (by simp [axisEvents])
    case frameTimeout => exact (State.mem_dueEvents_of_event rfl).trans (by simp [axisEvents, State.gapDue_iff, -reached_iff])
    case retransmitTimerExpiry => exact (State.mem_dueEvents_of_event rfl).trans (by simp [axisEvents])
    case silenceTimerExpiry => exact (State.mem_dueEvents_of_event rfl).trans (by simp [axisEvents])
    case barrierTimerExpiry g => exact (State.mem_dueEvents_of_event rfl).trans (by simp [axisEvents])
    case tripChange => exact (State.mem_dueEvents_of_event rfl).trans (by simp [axisEvents])
    case silenceCause a => exact State.mem_dueEvents_of_axis (a := a) (by simp [axisEvents])
    case tripCause a => exact State.mem_dueEvents_of_axis (a := a) (by simp [axisEvents])
    case stepDue a => exact (State.mem_dueEvents_of_axis (a := a) (by simp [axisEvents])).trans (Axis.stepDueAt_iff _ _)
    case delayedStepIssue a => exact (State.mem_dueEvents_of_axis (a := a) (by simp [axisEvents])).trans (Axis.delayedDue_iff _ _)
    case stepPulseEnd a =>
      exact (State.mem_dueEvents_of_axis (a := a) (by simp [axisEvents])).trans (by simp [State.axisDueIf])
    case dwellExpiry a =>
      exact (State.mem_dueEvents_of_axis (a := a) (by simp [axisEvents])).trans
        (by simp only [State.axisDueIf, decide_eq_true_eq, Axis.dwellRunning_iff])
    case limitInputChange a which =>
      cases which
      · exact (State.mem_dueEvents_of_axis (a := a) (by simp [axisEvents])).trans (s.inputDue_iff a .limp)
      · exact (State.mem_dueEvents_of_axis (a := a) (by simp [axisEvents])).trans (s.inputDue_iff a .limn)
    case dfltChange a => exact (State.mem_dueEvents_of_axis (a := a) (by simp [axisEvents])).trans (s.inputDue_iff a .dflt)
    case homeInputChange a =>
      refine (State.mem_dueEvents_of_axis (a := a) (by simp [axisEvents])).trans ?_
      rw [State.axisDueIf, Bool.and_eq_true, Bool.not_eq_true', ← Bool.not_eq_true, Axis.watches_iff, Axis.nextActive_eq, s.inputDue_iff]
    case seekTriggerEdge a =>
      refine (State.mem_dueEvents_of_axis (a := a) (by simp [axisEvents])).trans ?_
      rw [State.axisDueIf, Bool.or_eq_true, Bool.or_eq_true, Bool.and_eq_true, Bool.and_eq_true, Bool.and_eq_true, Bool.not_eq_true',
        Axis.watches_iff, Axis.watches_iff, Axis.nextActive_eq, Axis.nextActive_eq, s.inputDue_iff, s.inputDue_iff,
        Axis.triggerPending_iff, or_assoc, and_assoc]
    case indexEdge a =>
      refine (State.mem_dueEvents_of_axis (a := a) (by simp [axisEvents])).trans ?_
      rw [State.axisDueIf, Bool.or_eq_true, s.inputDue_iff]
    case quadratureTransition a => exact (State.mem_dueEvents_of_axis (a := a) (by simp [axisEvents])).trans (s.pairDue_iff a)
    case rawInputChange | byteDelivered | frameReceived | lengthError | breakRecognised | linkReset | powerOn | powerLoss | resetnAssert | resetnRelease =>
      exact (State.mem_dueEvents_of_event rfl).trans (by simp [axisEvents])
    all_goals exact State.mem_dueEvents_request rfl
  · rintro s t q future rfl
    exact ⟨State.passTo_frame future, State.deviceTime_passTo future,
      fun a => (State.axis_passTo_eq future a).trans (Axis.spend_eq _ _)⟩

end Sys2Proof.Machine

/-!
PROOF. Fault causes: the first one (R117, R120 to R125), later ones (R127), and the evaluation of Set Position (R93, R94).
-/

namespace Sys2Proof.Machine

section FaultAtOnce
variable {s : State} {a : AxisId} {cause : Cause}

/-! ## A first cause that brings FAULT -/

theorem State.faultRecordOf_of_none (idle : (s.axis a).ctx = none) : s.faultRecordOf a cause =
    ⟨cause, 0, s.deviceTime, (s.axis a).position, (s.axis a).encoder.position, (s.axis a).fe, none, (s.axis a).st⟩ := by
  rw [State.faultRecordOf, idle]
  rfl

theorem State.faultRecordOf_of_some {c : Ctx} (active : (s.axis a).ctx = some c) : s.faultRecordOf a cause =
    ⟨cause, 0, s.deviceTime, (s.axis a).position, (s.axis a).encoder.position, (s.axis a).fe, some c.seg.tag, (s.axis a).st⟩ := by
  rw [State.faultRecordOf, active]
  rfl

/-- The axis in FAULT, once the record of the cause is made and its segment, if any, has gone. -/
theorem State.faulted_recorded_of_none (idle : (s.axis a).ctx = none) (ena : Bool) :
    (s.recorded a cause).faulted ena = { s.axis a with
      st := .fault, ena := ena, rate := 0, owedFlush := false
      faultRecord := some ⟨cause, 0, s.deviceTime, (s.axis a).position, (s.axis a).encoder.position, (s.axis a).fe, none,
        (s.axis a).st⟩ } := by
  rw [Axis.faulted, Axis.departed_of_none (show (s.recorded a cause).ctx = none from idle), State.recorded,
    State.faultRecordOf_of_none idle]

theorem State.faulted_recorded_of_some {c : Ctx} {q : List Segment} (active : (s.axis a).ctx = some c)
    (queue : (s.axis a).queue = c.seg :: q) (ena : Bool) :
    (s.recorded a cause).faulted ena = { s.axis a with
      st := .fault, ena := ena, rate := 0, owedFlush := false, ctx := none, queue := q
      faultRecord := some ⟨cause, 0, s.deviceTime, (s.axis a).position, (s.axis a).encoder.position, (s.axis a).fe, some c.seg.tag,
        (s.axis a).st⟩ } := by
  rw [Axis.faulted, Axis.departed_of_some (show (s.recorded a cause).ctx = some c from active), State.recorded,
    State.faultRecordOf_of_some active]
  simp only [queue, List.tail_cons]

theorem State.raised_of_none (idle : (s.axis a).ctx = none) :
    s.raised a cause = .faultRaised a cause (s.axis a).position (s.axis a).encoder.position (s.axis a).fe none := by
  rw [State.raised, idle]
  rfl

theorem State.raised_of_some {c : Ctx} (active : (s.axis a).ctx = some c) :
    s.raised a cause = .faultRaised a cause (s.axis a).position (s.axis a).encoder.position (s.axis a).fe (some c.seg.tag) := by
  rw [State.raised, active]
  rfl

theorem Axis.leaving_of_queue {x : Axis} {c : Ctx} {q : List Segment} (active : x.ctx = some c) (queue : x.queue = c.seg :: q) :
    x.leaving = [c.seg] := by rw [Axis.leaving_of_some active, queue]; rfl

/-- A first cause on an axis at no barrier, under HALT or on one that does not step. -/
theorem State.changesTo_raiseCause_fault (st : (s.axis a).st ∈ ([.ready, .run, .holding, .held, .stopping] : List AxisState))
    (h : (s.axis a).protection.policy cause = .halt ∨ (s.axis a).stepping = false) :
    s.changesTo a ((s.recorded a cause).faulted ((s.axis a).faultEna cause)) (s.raised a cause :: (s.axis a).abortion a .fault)
      (s.axis a).leaving (s.raiseCause a cause) := by
  simp only [List.mem_cons, List.not_mem_nil, or_false] at st
  rw [State.raiseCause_first (by rcases st with e | e | e | e | e <;> simp [e]) (by rcases st with e | e | e | e | e <;> simp [e])
    (by rcases st with e | e | e | e | e <;> simp [e])]
  exact State.changesTo_firstCause_fault h (by rcases st with e | e | e | e | e <;> simp [e])

/-- The withdrawal of an axis in GATE from the group of its head. -/
theorem State.withdraw_of_gate {g : GroupId} (gate : (s.axis a).st = .gate) (head : (s.axis a).headGate = some g) :
    s.withdraw a = s.setGroup g { s.group g with
      arrived := (s.group g).arrived &&& ~~~axisBit a
      timer := if (s.group g).arrived &&& ~~~axisBit a = 0 then none else (s.group g).timer } := by
  rw [State.withdraw, if_pos gate, head]
  rfl

/-- A first cause on an axis that waits at a barrier. -/
theorem State.raiseCause_gate {g : GroupId} (gate : (s.axis a).st = .gate) (idle : (s.axis a).ctx = none)
    (head : (s.axis a).headGate = some g) : s.raiseCause a cause =
      { (s.setGroup g { s.group g with
          arrived := (s.group g).arrived &&& ~~~axisBit a
          timer := if (s.group g).arrived &&& ~~~axisBit a = 0 then none else (s.group g).timer }).setAxis a
            ((s.recorded a cause).faulted ((s.axis a).faultEna cause)) with
        reports := s.reports.create s.deviceTime (s.raised a cause) } := by
  have stopped : (s.axis a).stepping = false := by simp [Axis.stepping, gate]
  have noted := s.changesTo_noted a cause
  have axis : (s.noted a cause).axis a = s.recorded a cause := noted.axis
  rw [State.raiseCause_first (by simp [gate]) (by simp [gate]) (by simp [gate]), State.firstCause_fault (.inr stopped),
    State.withdraw_of_gate (g := g) (by rw [axis]; exact gate) (by rw [axis]; exact head)]
  have fault := State.changesTo_enterFault ((s.noted a cause).setGroup g { (s.noted a cause).group g with
      arrived := ((s.noted a cause).group g).arrived &&& ~~~axisBit a
      timer := if ((s.noted a cause).group g).arrived &&& ~~~axisBit a = 0 then none else ((s.noted a cause).group g).timer }) a
    ((s.axis a).faultEna cause)
  rw [State.axis_setGroup, axis, Axis.abortion_of_none a .fault (show (s.recorded a cause).ctx = none from idle),
    Axis.leaving_of_none (show (s.recorded a cause).ctx = none from idle)] at fault
  rw [fault.eq_setAxis, noted.eq_setAxis]
  simp only [State.setAxis, State.setGroup, State.group, ReportUnit.createAll, List.foldl_cons, List.foldl_nil, Vector.set_set]
  rfl

end FaultAtOnce

/-- Settles O32. -/
theorem firstCauseFaultsTheAxis : Obligations.FirstCauseFaultsTheAxis := by
  refine ⟨fun p => ⟨rfl, rfl, rfl, rfl, rfl, rfl, rfl⟩, fun x => ?_, ?_⟩
  · rw [Axis.stepping_iff]
    simp
  rintro s a x cause rfl
  refine ⟨fun off => ?_, fun st calm ena e => ⟨fun idle => ?_, fun c q active queue => ?_⟩, fun g gate idle head => ?_,
    (s.touches_raiseCause a cause).2, (s.touches_raiseCause a cause).1⟩
  · unfold State.raiseCause
    rw [off]
  · have fault := State.changesTo_raiseCause_fault st calm
    rw [Axis.abortion_of_none a .fault idle, Axis.leaving_of_none idle, State.faulted_recorded_of_none idle, State.raised_of_none idle]
      at fault
    refine ⟨fault.axis.trans (by rw [e, Axis.faultEna]), ?_⟩
    rw [fault.eq_setAxis]
    rfl
  · have fault := State.changesTo_raiseCause_fault st calm
    rw [Axis.abortion_of_some a .fault active, Axis.leaving_of_queue active queue, State.faulted_recorded_of_some active queue,
      State.raised_of_some active] at fault
    obtain ⟨axis, -, pool, groups, reports, -⟩ := fault
    exact ⟨axis.trans (by rw [e, Axis.faultEna]), reports, pool, groups⟩
  · have fault := State.raiseCause_gate (cause := cause) gate idle head
    rw [State.faulted_recorded_of_none idle, State.raised_of_none idle, Axis.faultEna, gate] at fault
    refine ⟨?_, ?_⟩
    · rw [fault]
      exact State.axis_setAxis_self _ _ _
    · rw [fault]
      rfl

end Sys2Proof.Machine

/-!
PROOF. The fault brake: how it begins, how it ends at once, and the causes that come later (R123, R125, R127); Set Position (R93, R94).
-/

namespace Sys2Proof.Machine

section FaultBrake
variable {s : State} {a : AxisId} {cause : Cause} {c : Ctx}

/-! ## The fault brake begins -/

/-- The watch of a segment whose fault brake has begun. -/
theorem Ctx.faultBrake_of_brake {b : Brake} (h : c.brake = some b) (rate : Nat) (set : AxisSettings) :
    c.faultBrake rate set = { c with
      watch := if c.watch = some .opened then some .closed else c.watch, edgePending := false } := by
  rw [Ctx.faultBrake, if_pos (by simp [h]), Ctx.closeWatch_eq]

theorem Ctx.faultBrake_of_none (h : c.brake = none) (rate : Nat) (set : AxisSettings) :
    c.faultBrake rate set = { c with
      phase := .brake, brake := some ⟨rate, 0, brakeCount rate set.baseRate set.decrement⟩, delayed := none
      watch := if c.watch = some .opened then some .closed else c.watch, edgePending := false } := by
  rw [Ctx.faultBrake, if_neg (by simp [h]), Ctx.closeWatch_eq]
  rfl

theorem Axis.stepping_of_st {x : Axis} (st : x.st ∈ ([.run, .holding, .stopping] : List AxisState)) (active : x.ctx = some c)
    (steps : c.seg.body.makesSteps = true) : x.stepping = true := by
  rw [Axis.stepping_of_ctx active]
  simp only [List.mem_cons, List.not_mem_nil, or_false] at st ⊢
  exact ⟨by rcases st with e | e | e <;> simp [e], steps⟩

/-- The axis as its fault brake has begun. -/
theorem State.enterFaultBrake_recorded (active : (s.axis a).ctx = some c) :
    (s.recorded a cause).enterFaultBrake = { s.axis a with
      st := .faultBrake, owedFlush := false, enaAfterBrake := (s.axis a).protection.keepEnable
      faultRecord := some ⟨cause, 0, s.deviceTime, (s.axis a).position, (s.axis a).encoder.position, (s.axis a).fe, some c.seg.tag,
        (s.axis a).st⟩
      ctx := some (c.faultBrake (s.axis a).rate (s.axis a).settings) } := by
  have ctx : (s.recorded a cause).ctx = some c := active
  rw [Axis.enterFaultBrake, ctx, State.recorded, State.faultRecordOf_of_some active]
  rfl

/-- Under BRAKE a stepping axis begins its fault brake. -/
theorem State.raiseCause_brake (st : (s.axis a).st ∈ ([.run, .holding, .stopping] : List AxisState)) (active : (s.axis a).ctx = some c)
    (steps : c.seg.body.makesSteps = true) (brake : (s.axis a).protection.policy cause = .brake) :
    s.raiseCause a cause = ((s.noted a cause).modAxis a Axis.enterFaultBrake).settleBrake a := by
  have stepping := Axis.stepping_of_st st active steps
  simp only [List.mem_cons, List.not_mem_nil, or_false] at st
  rw [State.raiseCause_first (by rcases st with e | e | e <;> simp [e]) (by rcases st with e | e | e <;> simp [e])
    (by rcases st with e | e | e <;> simp [e]), State.firstCause_brake brake stepping]

/-- A fault brake that has steps left goes on. -/
theorem State.raiseCause_brake_running (st : (s.axis a).st ∈ ([.run, .holding, .stopping] : List AxisState))
    (active : (s.axis a).ctx = some c) (steps : c.seg.body.makesSteps = true) (brake : (s.axis a).protection.policy cause = .brake)
    (running : (c.faultBrake (s.axis a).rate (s.axis a).settings).brakeEnd = .running) :
    s.raiseCause a cause = { s.setAxis a (s.recorded a cause).enterFaultBrake with
      reports := s.reports.create s.deviceTime (s.raised a cause) } := by
  have begun := s.changesTo_beginFaultBrake (a := a) (cause := cause)
  have still := State.settleBrake_running begun.axis (by rw [State.enterFaultBrake_recorded active]) running
  rw [State.raiseCause_brake st active steps brake, still, begun.eq_setAxis]
  rfl

/-- A fault brake that is complete, or whose segment is, ends in FAULT at once: what leaves, and with which reports. -/
theorem State.changesTo_raiseCause_brake_ended (st : (s.axis a).st ∈ ([.run, .holding, .stopping] : List AxisState))
    (active : (s.axis a).ctx = some c) (steps : c.seg.body.makesSteps = true) (brake : (s.axis a).protection.policy cause = .brake)
    {y : Axis} (y' : y = (s.recorded a cause).enterFaultBrake) {reports : List ReportBody}
    (ended : (c.faultBrake (s.axis a).rate (s.axis a).settings).brakeEnd = .completed ∧ reports = y.abortion a .fault
      ∨ (c.faultBrake (s.axis a).rate (s.axis a).settings).brakeEnd = .exhausted ∧ reports = y.completion a) :
    s.changesTo a (y.faulted (s.axis a).protection.keepEnable) (s.raised a cause :: reports) y.leaving (s.raiseCause a cause) := by
  subst y'
  have begun := s.changesTo_beginFaultBrake (a := a) (cause := cause)
  have ctx : (s.recorded a cause).enterFaultBrake.ctx = some (c.faultBrake (s.axis a).rate (s.axis a).settings) := by
    rw [State.enterFaultBrake_recorded active]
  have mode : (s.recorded a cause).enterFaultBrake.st = .faultBrake := rfl
  rw [State.raiseCause_brake st active steps brake]
  rcases ended with ⟨completed, rfl⟩ | ⟨exhausted, rfl⟩
  · exact begun.trans (State.changesTo_settleBrake_faultBrake_completed begun.axis ctx mode completed)
  · exact begun.trans (State.changesTo_settleBrake_faultBrake_exhausted begun.axis ctx mode exhausted)

/-- How a fault brake stands as it begins. -/
theorem Ctx.faultBrake_ended {rate : Nat} {set : AxisSettings} (room : c.stepsDone < c.seg.body.total)
    (over' : c.brake = none ∧ brakeCount rate set.baseRate set.decrement = 0 ∨ ∃ b, c.brake = some b ∧ b.count ≤ b.issued) :
    (c.faultBrake rate set).brakeEnd = .completed := by
  rcases over' with ⟨none, zero⟩ | ⟨b, some, all⟩
  · rw [Ctx.faultBrake_of_none none]
    exact Ctx.brakeEnd_completed rfl room (Nat.le_of_eq zero)
  · rw [Ctx.faultBrake_of_brake some]
    exact Ctx.brakeEnd_completed some room all

theorem Ctx.faultBrake_exhausted (rate : Nat) (set : AxisSettings) (done : c.seg.body.total ≤ c.stepsDone) :
    (c.faultBrake rate set).brakeEnd = .exhausted := by
  cases brake : c.brake with
  | none =>
    rw [Ctx.faultBrake_of_none brake]
    exact Ctx.brakeEnd_exhausted rfl done
  | some b =>
    rw [Ctx.faultBrake_of_brake brake]
    exact Ctx.brakeEnd_exhausted brake done

/-- A brake, or the closing of the watch, changes nothing that a completion reports. -/
theorem completionReport?_faultBrake (a : AxisId) (x : Axis) (c : Ctx) (rate : Nat) (set : AxisSettings) :
    completionReport? a x (c.faultBrake rate set) = completionReport? a x c := by
  have frame : (c.faultBrake rate set).seg = c.seg ∧ (c.faultBrake rate set).stepsDone = c.stepsDone
      ∧ ((c.faultBrake rate set).watch = some .found ↔ c.watch = some .found) := by
    have found : (if c.watch = some .opened then some Watch.closed else c.watch) = some .found ↔ c.watch = some .found := by
      split
      · next h => simp [h]
      · exact Iff.rfl
    cases brake : c.brake with
    | none =>
      rw [Ctx.faultBrake_of_none brake]
      exact ⟨rfl, rfl, found⟩
    | some b =>
      rw [Ctx.faultBrake_of_brake brake]
      exact ⟨rfl, rfl, found⟩
  obtain ⟨seg, steps, watch⟩ := frame
  simp only [completionReport?, seg, steps, watch]

/-! ## Later causes -/

theorem State.raiseCause_join {r : FaultRecord} (record : (s.axis a).faultRecord = some r)
    (h : (s.axis a).st = .fault ∨ (s.axis a).st = .faultBrake ∧ (s.axis a).protection.policy cause = .brake) :
    s.raiseCause a cause =
      s.setAxis a { s.axis a with faultRecord := some { r with additional := r.additional ||| (1#8 <<< (cause.code - 1)) } } := by
  rw [State.raiseCause_later (h.elim .inr fun e => .inl e.1), State.changesTo_laterCause_join (h.elim (fun e => .inl (by simp [e]))
    fun e => .inr (by simp [e.2])), record]
  rfl

end FaultBrake

/-- The report of a completion as a list of at most one. -/
theorem completionReport?_toList (a : AxisId) (x : Axis) (c : Ctx) (steps : c.seg.body.makesSteps = true) :
    (completionReport? a x c).toList = match c.seg.body with
      | .move _ _ _ r => if r then [.segmentDone a c.seg.tag x.position] else []
      | .seek .. => if c.watch = some .found then [] else [.seekResult a c.seg.tag false c.stepsDone none none]
      | .dwell .. | .mark => [] := by
  unfold completionReport?
  cases body : c.seg.body with
  | move n S E r => cases r <;> rfl
  | seek d rate max src e =>
    dsimp only
    split <;> rfl
  | dwell | mark =>
    rw [body] at steps
    cases steps

/-- Settles O33. -/
theorem faultBrakeBeginsAndLaterCausesJoin : Obligations.FaultBrakeBeginsAndLaterCausesJoin := by
  refine ⟨?_, ?_, ?_⟩
  · rintro s a x c cause b fresh rfl active st steps brake room begins left
    have running : c.faultBrake (s.axis a).rate (s.axis a).settings = { c with
        phase := if fresh then .brake else c.phase, brake := some b, delayed := if fresh then none else c.delayed
        edgePending := false, watch := if c.watch = some .opened then some .closed else c.watch } := by
      rcases begins with ⟨rfl, none, rfl⟩ | ⟨rfl, some⟩
      · rw [Ctx.faultBrake_of_none none]
        rfl
      · rw [Ctx.faultBrake_of_brake some, ← some]
        rfl
    rw [State.raiseCause_brake_running st active steps brake (by rw [running]; exact Ctx.brakeEnd_running rfl room left),
      State.enterFaultBrake_recorded active, running, State.raised_of_some active]
  · rintro s a x c q cause rfl active queue st steps brake bodies ended
    have ctx : (s.recorded a cause).enterFaultBrake.ctx = some (c.faultBrake (s.axis a).rate (s.axis a).settings) := by
      rw [State.enterFaultBrake_recorded active]
    have frame := c.faultBrake_frame (s.axis a).rate (s.axis a).settings
    obtain ⟨seg, -, done⟩ := frame
    have change : s.changesTo a ((s.recorded a cause).enterFaultBrake.faulted (s.axis a).protection.keepEnable)
        (s.raised a cause :: (bodies ++ (s.axis a).lowAfterOne a)) (s.recorded a cause).enterFaultBrake.leaving (s.raiseCause a cause) := by
      refine State.changesTo_raiseCause_brake_ended st active steps brake rfl ?_
      rcases ended with ⟨room, over', rfl⟩ | ⟨all, rfl⟩
      · refine .inl ⟨Ctx.faultBrake_ended room over', ?_⟩
        rw [Axis.abortion_of_some a .fault ctx, seg, done]
        rfl
      · refine .inr ⟨Ctx.faultBrake_exhausted _ _ all, ?_⟩
        rw [Axis.completion_of_some a ctx, completionReport?_faultBrake]
        exact congrArg (· ++ _) (completionReport?_toList a (s.axis a) c steps).symm
    have leaving : (s.recorded a cause).enterFaultBrake.leaving = [c.seg] := by
      rw [Axis.leaving_of_some ctx]
      show (s.axis a).queue.take 1 = _
      rw [queue]
      rfl
    rw [leaving, State.raised_of_some active] at change
    obtain ⟨axis, others, pool, groups, reports, -⟩ := change
    refine ⟨axis.trans ?_, reports, pool, groups, others⟩
    rw [Axis.faulted, Axis.departed_of_some ctx, State.enterFaultBrake_recorded active]
    simp only [queue, List.tail_cons]
  · rintro s a x r cause rfl record
    refine ⟨State.raiseCause_join record, fun c q st halt active queue => ?_⟩
    have cut := State.changesTo_laterCause_cut st halt
    rw [Axis.abortion_of_some a .fault active, Axis.leaving_of_queue active queue] at cut
    rw [State.raiseCause_later (.inl st)]
    obtain ⟨axis, -, pool, groups, reports, -⟩ := cut
    refine ⟨axis.trans ?_, reports, pool, groups⟩
    have departed := Axis.departed_of_some (x := { s.axis a with faultRecord := (s.axis a).faultRecord.map (FaultRecord.add cause) })
      (c := c) active
    rw [Axis.faulted, departed]
    simp only [queue, List.tail_cons, record]
    rfl

/-! ## Set Position -/

section SetPosition
variable {s : State} {f : Frame} {rest : List Frame} {a : AxisId} {P : Word32} {flags : Byte} {y : Axis}

/-- What Set Position answers where it is not refused. -/
theorem execSetPosition_eq (offered : s.offers f rest) (code : f.code = 0x26)
    (payload : f.payload = axisByte a :: leBytes 4 P.toNat ++ [flags])
    (st : (s.axis a).st = .off ∨ (s.axis a).st = .ready ∨ (s.axis a).st = .fault)
    (set : y = { s.axis a with
      position := P
      encoder := { (s.axis a).encoder with
        position :=
          if flags.getLsbD 0 = true ∧ (s.axis a).settings.encoderEnable = true
          then BitVec.ofNat 32 (s.axis a).settings.countsPerStep * P else (s.axis a).encoder.position } }) :
    exec .setPosition s = .next (((s.setAxis a y).evaluateFollow a).answered f rest
      (0 :: leBytes 4 P.toNat ++ leBytes 4 y.encoder.position.toNat)) := by
  have length : f.payload.length = 6 := by simp [payload]
  have byte : byteAt f.payload 0 = axisByte a := by rw [payload]; rfl
  have number : BitVec.ofNat 32 (field f.payload 1 4) = P := by
    rw [field_of_drop (show P.toNat < 256 ^ 4 from P.isLt) (by rw [payload]; rfl), BitVec.ofNat_toNat, BitVec.setWidth_eq]
  have also : flag (byteAt f.payload 5) 0 = flags.getLsbD 0 := by rw [payload]; rfl
  refine congrArg Host.Outcome.next (State.takeRequest_axis offered code length byte (fun l => ?_)
    ((s.touches_setAxis a y).trans (State.touches_evaluateFollow _ a)).1)
  have allowed : (decide ((s.axis a).st = .off) || decide ((s.axis a).st = .ready) || decide ((s.axis a).st = .fault)) = true := by
    simpa [or_assoc] using st
  refine (if_pos allowed).trans ?_
  dsimp only
  rw [number, also, State.axis_withLink, State.withLink_setAxis, State.withLink_evaluateFollow, set]
  simp only [Bool.and_eq_true]
  rfl

end SetPosition

/-- Settles O29. -/
theorem setPositionSetsTheReference : Obligations.SetPositionSetsTheReference := by
  rintro s f rest a x y P flags rfl offered code payload st set
  have answer := execSetPosition_eq offered code payload st set
  have axis : (s.setAxis a y).axis a = y := State.axis_setAxis_self s a y
  have mode : y.st = (s.axis a).st := by rw [set]
  refine ⟨fun within => ?_, fun ena exceeded ready idle e => ?_, fun r exceeded fault record => ?_, fun both enabled => ?_⟩
  · rw [answer, State.evaluateFollow, axis, if_neg (by simp [within])]
  · have raise : (s.setAxis a y).evaluateFollow a = (s.setAxis a y).raiseCause a .follow := by
      rw [State.evaluateFollow, axis, if_pos exceeded]
    have ctx : ((s.setAxis a y).axis a).ctx = none := by rw [axis, set]; exact idle
    have fault := State.changesTo_raiseCause_fault (s := s.setAxis a y) (a := a) (cause := .follow) (by rw [axis, mode, ready]; decide)
      (.inr (by rw [axis]; simp [Axis.stepping, mode, ready]))
    rw [Axis.abortion_of_none a .fault ctx, Axis.leaving_of_none ctx, State.faulted_recorded_of_none ctx, State.raised_of_none ctx, axis]
      at fault
    refine ⟨_, answer, ?_⟩
    rw [raise, fault.eq_setAxis, State.setAxis_setAxis]
    have place : y.position = P := by rw [set]
    have policy : y.protection = (s.axis a).protection := by rw [set]
    refine ⟨?_, ?_, fun b ne => State.axis_setAxis_ne _ _ ne, rfl⟩
    · refine (State.axis_setAxis_self _ a _).trans ?_
      have level : y.faultEna .follow = ena := by
        rw [e, Axis.faultEna, policy]
        rfl
      rw [level, mode, ready, ← place]
      rfl
    · rw [← place]
      rfl
  · have join := State.raiseCause_join (s := s.setAxis a y) (a := a) (cause := .follow) (r := r) (by rw [axis, set]; exact record)
      (.inl (by rw [axis, mode]; exact fault))
    have raise : (s.setAxis a y).evaluateFollow a = (s.setAxis a y).raiseCause a .follow := by
      rw [State.evaluateFollow, axis, if_pos exceeded]
    rw [answer, raise, join, axis, State.setAxis_setAxis]
    rfl
  · have fe : y.fe = 0 := by
      rw [set, Axis.fe]
      simp only [both, enabled, and_self, if_true]
      exact BitVec.sub_self _
    refine ⟨fe, ?_⟩
    rw [Axis.followExceeded, fe]
    simp

end Sys2Proof.Machine

/-!
PROOF. Motion: what a beginning and an activation do, one task at a time (spec 02 R32, R33, R37, R40, R43, R44; 06 R102 to R104).
-/

namespace Sys2Proof.Machine

section Beginning
variable {s t : State} {a : AxisId} {carry : Option Nat} {more : List Task} {seg : Segment} {q : List Segment}

/-! ## A beginning -/

theorem State.beginHead_of_nil (may : s.mayStart a) (queue : (s.axis a).queue = []) (carry : Option Nat) :
    s.beginHead a carry = (s.setAxis a { s.axis a with st := .run, rate := 0 }, []) := by
  rw [State.beginHead, if_pos ((s.mayBegin_iff a).mpr may), queue]
  rfl

theorem State.beginHead_of_ungated (may : s.mayStart a) (queue : (s.axis a).queue = seg :: q) (gate : seg.gate = none)
    (carry : Option Nat) : s.beginHead a carry = (s, [.activate a carry]) := by
  rw [State.beginHead, if_pos ((s.mayBegin_iff a).mpr may), queue]
  simp only [gate]

theorem State.beginHead_of_gated {g : GroupId} (may : s.mayStart a) (queue : (s.axis a).queue = seg :: q) (gate : seg.gate = some g)
    (carry : Option Nat) : s.beginHead a carry = s.arrive a g := by
  rw [State.beginHead, if_pos ((s.mayBegin_iff a).mpr may), queue]
  simp only [gate]

/-- What the rules say of a beginning is what the model does. -/
theorem State.headBegins.beginHead_eq (h : s.headBegins a carry t more) : s.beginHead a carry = (t, more) := by
  obtain ⟨may, ⟨queue, rfl, rfl⟩ | ⟨seg, q, queue, ⟨gate, rfl, rfl⟩ | ⟨g, gate, ⟨open', waits, rfl⟩ | ⟨full, rfl, rfl⟩⟩⟩⟩ := h
  · exact State.beginHead_of_nil may queue carry
  · exact State.beginHead_of_ungated may queue gate carry
  · rw [State.beginHead_of_gated may queue gate]
    obtain ⟨waits', none⟩ := State.arrive_of_incomplete open'
    exact Prod.ext (waits'.trans waits.symm) none
  · rw [State.beginHead_of_gated may queue gate, State.arrive_of_complete full]
    rfl

/-! ## An activation -/

theorem newCtx_of_makesSteps (steps : seg.body.makesSteps = true) (carry : Option Nat) :
    newCtx seg carry = { seg.freshCtx with lastStep := carry } := by
  obtain ⟨tag, gate, body⟩ := seg
  cases body with
  | move | seek => rfl
  | dwell | mark => cases steps

theorem State.activate_of_makesSteps (may : s.mayStart a) (queue : (s.axis a).queue = seg :: q) (steps : seg.body.makesSteps = true)
    (carry : Option Nat) :
    s.activate a carry =
      (s.setAxis a { s.axis a with
          st := .run, ctx := some { seg.freshCtx with lastStep := if (s.axis a).rate = 0 then none else carry } },
        if (if (s.axis a).rate = 0 then none else carry).isNone then [.stepNow a] else []) := by
  rw [← newCtx_of_makesSteps steps, State.activate, if_pos ((s.mayBegin_iff a).mpr may), queue]
  obtain ⟨tag, gate, body⟩ := seg
  cases body with
  | move | seek => rfl
  | dwell | mark => cases steps

theorem State.activate_of_dwell {d : Nat} {r : Bool} (may : s.mayStart a) (queue : (s.axis a).queue = seg :: q)
    (body : seg.body = .dwell d r) (carry : Option Nat) :
    s.activate a carry = (s.setAxis a { s.axis a with
      st := .run, rate := 0, ctx := some ⟨seg, .timing, 0, d, none, none, 0, none, none, none, false⟩ }, []) := by
  have fresh (carry : Option Nat) : newCtx seg carry = ⟨seg, .timing, 0, d, none, none, 0, none, none, none, false⟩ := by
    rw [newCtx, body]
    rfl
  rw [State.activate, if_pos ((s.mayBegin_iff a).mpr may), queue]
  simp only [body, fresh, State.modAxis_eq, State.axis_setAxis_self, State.setAxis_setAxis]

theorem State.activate_of_mark (may : s.mayStart a) (queue : (s.axis a).queue = seg :: q) (body : seg.body = .mark)
    (carry : Option Nat) :
    s.changesTo a { s.axis a with st := .run, ctx := none, queue := q }
        (.markReached a seg.tag (s.axis a).position (s.axis a).encoder.position :: (s.axis a).lowAfterOne a) [seg] (s.activate a carry).1
      ∧ (s.activate a carry).2 = [.beginHead a (if (s.axis a).rate = 0 then none else carry)] := by
  rw [State.activate, if_pos ((s.mayBegin_iff a).mpr may), queue]
  simp only [body, State.modAxis_eq, and_true]
  generalize (if (s.axis a).rate = 0 then none else carry) = kept
  have complete := State.changesTo_completeActive (s.setAxis a { s.axis a with st := .run, ctx := some (newCtx seg kept) }) a
  rw [State.axis_setAxis_self, Axis.departed_of_some rfl, Axis.leaving_of_queue rfl (q := q) queue, Axis.completion_of_some a rfl] at complete
  refine complete.of_setAxis.of_eq ?_ ?_ rfl
  · simp only [queue, List.tail_cons]
  · have report : completionReport? a { s.axis a with st := .run, ctx := some (newCtx seg kept) } (newCtx seg kept)
        = some (.markReached a seg.tag (s.axis a).position (s.axis a).encoder.position) := by
      simp only [completionReport?, (newCtx_frame seg kept).1, body]
    rw [report]
    rfl

/-- What the rules say of an activation is what the model does. -/
theorem State.headActivates.activate_eq (h : s.headActivates a carry t more) : s.activate a carry = (t, more) := by
  obtain ⟨may, x, seg, q, rfl, queue, course⟩ := h
  rcases course with ⟨d, r, body, rfl, rfl⟩ | ⟨body, rfl, change⟩ | ⟨steps, ⟨last, rfl, moving, rfl, rfl⟩ | ⟨still, rfl, rfl⟩⟩
  · exact State.activate_of_dwell may queue body carry
  · obtain ⟨change', tasks⟩ := State.activate_of_mark may queue body carry
    exact Prod.ext (change'.unique change) tasks
  · rw [State.activate_of_makesSteps may queue steps, if_neg moving]
    rfl
  · have none : (if (s.axis a).rate = 0 then none else carry) = none := by
      rcases still with rfl | still
      · exact ite_self _
      · exact if_pos still
    rw [State.activate_of_makesSteps may queue steps, none]
    rfl

end Beginning

end Sys2Proof.Machine

/-!
PROOF. Motion: one step, from its falling due to its effects (spec 02 R34 to R39; 03 R54; 07 R118; 10 R170, R171).
-/

namespace Sys2Proof.Machine

/-! ## The pulse and DIR -/

theorem Axis.pulseOver_eq (now : Nat) (x : Axis) : x.pulseOver now = x.endPulseIfOver now := by
  have holds : (x.output.high && x.output.pulseEnd ≤ now) = true ↔ x.output.high = true ∧ x.output.pulseEnd ≤ now := by simp
  unfold Axis.pulseOver Axis.endPulseIfOver
  by_cases done : x.output.high = true ∧ x.output.pulseEnd ≤ now
  · rw [if_pos done, if_pos (holds.mpr done), Axis.endPulse, StepOutput.endPulse]
    cases x.output.turnTo <;> rfl
  · rw [if_neg done, if_neg (fun h => done (holds.mp h))]

theorem Axis.endPulseIfOver_of_not {now : Nat} {x : Axis} (going : ¬(x.output.high = true ∧ x.output.pulseEnd ≤ now)) :
    x.endPulseIfOver now = x := by
  rw [← Axis.pulseOver_eq, Axis.pulseOver, if_neg going]

theorem Axis.going_of_low {now : Nat} {x : Axis} (low : x.output.high = false) : ¬(x.output.high = true ∧ x.output.pulseEnd ≤ now) := by
  simp [low]

/-- Once a pulse that is over has ended, what is high goes on. -/
theorem Axis.going_pulseOver (now : Nat) (x : Axis) :
    ¬((x.pulseOver now).output.high = true ∧ (x.pulseOver now).output.pulseEnd ≤ now) := by
  unfold Axis.pulseOver
  by_cases done : x.output.high = true ∧ x.output.pulseEnd ≤ now
  · rw [if_pos done]
    simp
  · rwa [if_neg done]

/-- What the rules say of DIR before a step is what the model does. -/
theorem Axis.turnsFor.turn {now due : Nat} {dir : Dir} {x y : Axis} (h : x.turnsFor now dir y due) :
    y = x.turnDir now dir ∧ due = x.issueTime now dir := by
  unfold Axis.turnDir Axis.issueTime Axis.dirChangeAt
  rcases h with ⟨shown, rfl, rfl⟩ | ⟨shown, low, rfl, rfl⟩ | ⟨shown, high, rfl, rfl⟩
  · refine ⟨by rw [if_pos shown], ?_⟩
    simp only [if_pos shown, eq_comm (a := dir)]
    rfl
  · have down : ¬x.output.high = true := by simp [low]
    refine ⟨by simp only [if_neg shown, if_neg down]; rfl, ?_⟩
    simp only [if_neg shown, if_neg down]
    rfl
  · refine ⟨by simp only [if_neg shown, if_pos high], ?_⟩
    simp only [if_neg shown, if_pos high]
    rfl

/-- The choice of DIR leaves all else of the axis. -/
theorem Axis.turnsFor.frame {now due : Nat} {dir : Dir} {x y : Axis} (h : x.turnsFor now dir y due) :
    y = { x with output := y.output } ∧ y.output.high = x.output.high ∧ y.output.pulseEnd = x.output.pulseEnd := by
  rcases h with ⟨-, rfl, -⟩ | ⟨-, -, rfl, -⟩ | ⟨-, -, rfl, -⟩ <;> exact ⟨rfl, rfl, rfl⟩

/-- A step that nothing delays leaves DIR as it is. -/
theorem Axis.freeToStep.turnsFor {now : Nat} {dir : Dir} {x : Axis} (free : x.freeToStep now dir) : x.turnsFor now dir x now := by
  obtain ⟨last, shown, turn, -, spaced⟩ := free
  refine .inl ⟨shown, ?_, ?_⟩
  · rw [← turn]
  · rw [if_pos last]
    omega

/-! ## A step is issued -/

theorem Ctx.afterStep_eq (now : Nat) (c : Ctx) : c.afterStep now = { c with
    stepsDone := c.stepsDone + 1
    lastStep := some now
    delayed := none
    brake := if c.phase = .brake ∨ c.phase = .settle then c.brake.map (fun b => { b with issued := b.issued + 1 }) else c.brake
    rampSteps := if c.phase = .ramp then c.rampSteps + 1 else c.rampSteps } := by
  unfold Ctx.afterStep
  cases phase : c.phase <;> simp

theorem Axis.issueStep_eq {now : Nat} {c : Ctx} {x : Axis} (going : ¬(x.output.high = true ∧ x.output.pulseEnd ≤ now)) :
    x.issueStep now c = x.stepped now (c.nextRate x.settings) c.seg.body.dir (c.afterStep now) := by
  have spacing : now + 2 * (Config.quartersPerMicro * x.settings.pulseWidth) = now + 8 * x.settings.pulseWidth := by
    show now + 2 * (4 * x.settings.pulseWidth) = _
    omega
  unfold Axis.issueStep Axis.stepped
  rw [Axis.endPulseIfOver_of_not going, Axis.beginPulse, spacing]
  cases c.seg.body.dir <;> rfl

/-! ## The limit check -/

theorem Axis.inputActive_limitOf (dir : Dir) (x : Axis) : x.inputActive (limitOf dir).1 = x.atLimit dir := by cases dir <;> rfl

theorem limitOf_cause (dir : Dir) : (limitOf dir).2 = if dir = .positive then Cause.limitPos else Cause.limitNeg := by
  cases dir <;> rfl

section StepIssued
variable {s : State} {a : AxisId} {c : Ctx}

/-- The step is issued: the axis becomes `y`, FE is evaluated, and the effects follow. -/
def State.stepTo (s : State) (a : AxisId) (y : Axis) : State × List Task := ((s.setAxis a y).evaluateFollow a).stepEffects a

theorem State.stepTo_setAxis (s : State) (a : AxisId) (x y : Axis) : (s.setAxis a x).stepTo a y = s.stepTo a y := by
  rw [State.stepTo, State.setAxis_setAxis, State.stepTo]

theorem State.attemptStep_of_clear (active : (s.axis a).ctx = some c) (clear : (s.axis a).atLimit c.seg.body.dir = false)
    (going : ¬((s.axis a).output.high = true ∧ (s.axis a).output.pulseEnd ≤ s.clock)) :
    s.attemptStep a = s.stepTo a
      ((s.axis a).stepped s.clock (c.nextRate (s.axis a).settings) c.seg.body.dir (c.afterStep s.clock)) := by
  have issued : Axis.issueStep s.clock { c with delayed := none } { s.axis a with ctx := some { c with delayed := none } }
      = (s.axis a).stepped s.clock (c.nextRate (s.axis a).settings) c.seg.body.dir (c.afterStep s.clock) :=
    Axis.issueStep_eq (x := { s.axis a with ctx := some { c with delayed := none } }) going
  have pass : ¬Axis.inputActive { s.axis a with ctx := some { c with delayed := none } } (limitOf c.seg.body.dir).1 = true := by
    rw [Axis.inputActive_limitOf]
    exact Bool.eq_false_iff.mp clear
  rw [State.attemptStep, active]
  simp only [State.modAxis_eq, State.axis_setAxis_self, if_neg pass]
  simp only [State.issueStep, State.modAxis_eq, State.axis_setAxis_self, State.setAxis_setAxis]
  rw [State.stepTo, ← issued]
  rfl

theorem State.attemptStep_of_limit (active : (s.axis a).ctx = some c) (limit : (s.axis a).atLimit c.seg.body.dir = true)
    (st : (s.axis a).st ≠ .faultBrake) :
    s.attemptStep a =
      ((s.setAxis a { s.axis a with ctx := some { c with delayed := none } }).raiseCause a (limitOf c.seg.body.dir).2, []) := by
  have withheld : Axis.inputActive { s.axis a with ctx := some { c with delayed := none } } (limitOf c.seg.body.dir).1 = true := by
    rw [Axis.inputActive_limitOf]
    exact limit
  rw [State.attemptStep, active]
  simp only [State.modAxis_eq, State.axis_setAxis_self, if_pos withheld, decide_eq_false st, Bool.false_and, Bool.false_eq_true, if_false]

/-- In FAULT_BRAKE a limit under BRAKE joins the record, and the step is issued (R118, R127). -/
theorem State.attemptStep_of_join {r : FaultRecord} (active : (s.axis a).ctx = some c) (limit : (s.axis a).atLimit c.seg.body.dir = true)
    (st : (s.axis a).st = .faultBrake) (policy : (s.axis a).protection.limitPolicy = .brake) (record : (s.axis a).faultRecord = some r)
    (going : ¬((s.axis a).output.high = true ∧ (s.axis a).output.pulseEnd ≤ s.clock)) :
    s.attemptStep a = s.stepTo a (Axis.stepped s.clock (c.nextRate (s.axis a).settings) c.seg.body.dir (c.afterStep s.clock)
      { s.axis a with
        faultRecord := some { r with additional := r.additional ||| (if c.seg.body.dir = .positive then 1#8 else 2#8) } }) := by
  have met : Axis.inputActive { s.axis a with ctx := some { c with delayed := none } } (limitOf c.seg.body.dir).1 = true := by
    rw [Axis.inputActive_limitOf]
    exact limit
  have policy' : (s.axis a).protection.policy (limitOf c.seg.body.dir).2 = .brake := by
    rw [← policy]
    cases c.seg.body.dir <;> rfl
  have bit : (1#8 <<< ((limitOf c.seg.body.dir).2.code - 1)) = if c.seg.body.dir = .positive then 1#8 else 2#8 := by
    cases c.seg.body.dir <;> rfl
  have join := State.raiseCause_join (s := s.setAxis a { s.axis a with ctx := some { c with delayed := none } }) (a := a)
    (cause := (limitOf c.seg.body.dir).2) (r := r) (by rw [State.axis_setAxis_self]; exact record)
    (.inr (by rw [State.axis_setAxis_self]; exact ⟨st, policy'⟩))
  rw [State.axis_setAxis_self, State.setAxis_setAxis, bit] at join
  have issued := Axis.issueStep_eq (now := s.clock) (c := { c with delayed := none }) (x := { s.axis a with
    ctx := some { c with delayed := none }
    faultRecord := some { r with additional := r.additional ||| (if c.seg.body.dir = .positive then 1#8 else 2#8) } }) going
  refine Eq.trans ?_ (congrArg (s.stepTo a) issued)
  rw [State.attemptStep, active]
  simp only [State.modAxis_eq, State.axis_setAxis_self, if_pos met, join, decide_eq_true st, Bool.and_self, if_true]
  simp only [State.issueStep, State.modAxis_eq, State.axis_setAxis_self, State.setAxis_setAxis]
  rfl

/-- In FAULT_BRAKE a limit under HALT cuts the brake, and the step is not made (R118, R127). -/
theorem State.attemptStep_of_cut (active : (s.axis a).ctx = some c) (limit : (s.axis a).atLimit c.seg.body.dir = true)
    (st : (s.axis a).st = .faultBrake) (policy : (s.axis a).protection.limitPolicy = .halt) :
    s.attemptStep a =
      ((s.setAxis a { s.axis a with ctx := some { c with delayed := none } }).laterCause a (limitOf c.seg.body.dir).2, []) := by
  have met : Axis.inputActive { s.axis a with ctx := some { c with delayed := none } } (limitOf c.seg.body.dir).1 = true := by
    rw [Axis.inputActive_limitOf]
    exact limit
  have policy' : (s.axis a).protection.policy (limitOf c.seg.body.dir).2 = .halt := by
    rw [← policy]
    cases c.seg.body.dir <;> rfl
  have raise : (s.setAxis a { s.axis a with ctx := some { c with delayed := none } }).raiseCause a (limitOf c.seg.body.dir).2
      = (s.setAxis a { s.axis a with ctx := some { c with delayed := none } }).laterCause a (limitOf c.seg.body.dir).2 :=
    State.raiseCause_later (.inl (by rw [State.axis_setAxis_self]; exact st))
  have cut := State.changesTo_laterCause_cut (s := s.setAxis a { s.axis a with ctx := some { c with delayed := none } }) (a := a)
    (cause := (limitOf c.seg.body.dir).2) (by rw [State.axis_setAxis_self]; exact st) (by rw [State.axis_setAxis_self]; exact policy')
  have fault : (((s.setAxis a { s.axis a with ctx := some { c with delayed := none } }).laterCause a
      (limitOf c.seg.body.dir).2).axis a).st = .fault := by
    rw [cut.axis]
    rfl
  rw [State.attemptStep, active]
  simp only [State.modAxis_eq, State.axis_setAxis_self, if_pos met, raise, fault]
  simp

/-- A step that the limit check lets pass is issued. -/
theorem State.attemptStep_of_passes {w : Axis} (active : (s.axis a).ctx = some c) (passes : (s.axis a).limitPasses c.seg.body.dir w)
    (going : ¬((s.axis a).output.high = true ∧ (s.axis a).output.pulseEnd ≤ s.clock)) :
    s.attemptStep a = s.stepTo a
      (w.stepped s.clock (c.nextRate (s.axis a).settings) c.seg.body.dir (c.afterStep s.clock)) := by
  rcases passes with ⟨clear, rfl⟩ | ⟨limit, st, policy, r, record, rfl⟩
  · exact State.attemptStep_of_clear active clear going
  · exact State.attemptStep_of_join active limit st policy record going

/-- The axis that the limit check has passed. -/
theorem Axis.limitPasses.frame {dir : Dir} {x w : Axis} (passes : x.limitPasses dir w) :
    w = { x with faultRecord := w.faultRecord } ∧ (x.st ≠ .faultBrake → w = x) := by
  rcases passes with ⟨-, rfl⟩ | ⟨-, st, -, r, -, rfl⟩
  · exact ⟨rfl, fun _ => rfl⟩
  · exact ⟨rfl, fun h => absurd st h⟩

/-! ## What an issued step does to its segment -/

/-- A step with FE within its limit. -/
theorem State.stepTo_of_within {y : Axis} (within : y.followExceeded = false) : s.stepTo a y = (s.setAxis a y).stepEffects a := by
  rw [State.stepTo, State.evaluateFollow, State.axis_setAxis_self, if_neg (by simp [within])]

theorem State.stepTo_of_exceeded {y : Axis} (exceeded : y.followExceeded = true) :
    s.stepTo a y = ((s.setAxis a y).raiseCause a .follow).stepEffects a := by
  rw [State.stepTo, State.evaluateFollow, State.axis_setAxis_self, if_pos exceeded]

theorem State.stepEffects_of_none (idle : (s.axis a).ctx = none) : s.stepEffects a = (s, []) := by rw [State.stepEffects, idle]

section StepEffects
variable {x : Axis} (axis : s.axis a = x) (active : x.ctx = some c)
include axis active

theorem State.stepEffects_of_not_run (st : x.st ≠ .run) : s.stepEffects a = (s.settleBrake a, []) := by
  simp only [State.stepEffects, axis, active, if_neg st]

theorem State.stepEffects_of_more (st : x.st = .run) (phase : c.phase ≠ .settle) (more : c.stepsDone < c.seg.body.total) :
    s.stepEffects a = (s, []) := by
  simp only [State.stepEffects, axis, active, if_pos st, if_neg phase, if_neg (Nat.not_le.mpr more)]

theorem State.stepEffects_of_move {n : Int} {S E : Nat} {r : Bool} (st : x.st = .run)
    (phase : c.phase ≠ .settle) (all : c.seg.body.total ≤ c.stepsDone) (body : c.seg.body = .move n S E r) :
    s.stepEffects a = s.completeMove a c E := by
  simp only [State.stepEffects, axis, active, if_pos st, if_neg phase, if_pos all]
  simp only [body]

theorem State.stepEffects_of_seek (st : x.st = .run) (phase : c.phase ≠ .settle) (all : c.seg.body.total ≤ c.stepsDone)
    (seek : c.seg.body.isSeek = true) : s.stepEffects a = ((s.completeActive a).enterHeld a, []) := by
  simp only [State.stepEffects, axis, active, if_pos st, if_neg phase, if_pos all]
  cases body : c.seg.body with
  | seek => rfl
  | move | dwell | mark =>
    rw [body] at seek
    cases seek

theorem State.stepEffects_of_settled (st : x.st = .run) (phase : c.phase = .settle)
    (ended : c.brakeEnd ≠ .running) : s.stepEffects a = s.completeAtRest a := by
  simp only [State.stepEffects, axis, active, if_pos st, if_pos phase]
  cases e : c.brakeEnd with
  | running => exact absurd e ended
  | exhausted | completed => rfl

theorem State.stepEffects_of_settling (st : x.st = .run) (phase : c.phase = .settle) (going : c.brakeEnd = .running) :
    s.stepEffects a = (s, []) := by
  simp only [State.stepEffects, axis, active, if_pos st, if_pos phase, going]

end StepEffects

section StepWithin
variable {y : Axis} {q : List Segment} (within : y.followExceeded = false) (active : y.ctx = some c)
include within active

theorem State.stepTo_of_not_run (st : y.st ≠ .run) : s.stepTo a y = ((s.setAxis a y).settleBrake a, []) := by
  rw [State.stepTo_of_within within, State.stepEffects_of_not_run (s.axis_setAxis_self a y) active st]

theorem State.stepTo_of_more (st : y.st = .run) (phase : c.phase ≠ .settle) (more : c.stepsDone < c.seg.body.total) :
    s.stepTo a y = (s.setAxis a y, []) := by
  rw [State.stepTo_of_within within, State.stepEffects_of_more (s.axis_setAxis_self a y) active st phase more]

theorem State.stepTo_of_settling (st : y.st = .run) (phase : c.phase = .settle) (going : c.brakeEnd = .running) :
    s.stepTo a y = (s.setAxis a y, []) := by
  rw [State.stepTo_of_within within, State.stepEffects_of_settling (s.axis_setAxis_self a y) active st phase going]

/-- The last step of a MOVE completes it, and the next head begins (R38, R39, R41). -/
theorem State.stepTo_of_move {n : Int} {S E : Nat} {r : Bool} (st : y.st = .run) (phase : c.phase ≠ .settle)
    (all : c.seg.body.total ≤ c.stepsDone) (body : c.seg.body = .move n S E r) (queue : y.queue = c.seg :: q) :
    s.changesTo a { y with ctx := none, queue := q }
        ((if r then [.segmentDone a c.seg.tag y.position] else []) ++ y.lowAfterOne a
          ++ (if q = [] ∧ y.settings.baseRate < E then [.underrun a c.seg.tag E] else [])) [c.seg] (s.stepTo a y).1
      ∧ (s.stepTo a y).2 = [.beginHead a c.lastStep] := by
  rw [State.stepTo_of_within within, State.stepEffects_of_move (s.axis_setAxis_self a y) active st phase all body]
  have complete := (s.setAxis a y).changesTo_completeMove a c E
  have departed : y.departed = { y with ctx := none, queue := q } := by
    rw [Axis.departed_of_some active, queue, List.tail_cons]
  have report : (completionReport? a y c).toList = if r then [.segmentDone a c.seg.tag y.position] else [] := by
    simp only [completionReport?, body]
    cases r <;> rfl
  rw [State.axis_setAxis_self, Axis.underruns, Axis.completion_of_some a active, Axis.leaving_of_queue active queue, departed, report]
    at complete
  exact ⟨complete.of_setAxis, rfl⟩

/-- The last step of a SEEK that is not found ends it in HELD (R75). -/
theorem State.stepTo_of_seek (st : y.st = .run) (phase : c.phase ≠ .settle) (all : c.seg.body.total ≤ c.stepsDone)
    (seek : c.seg.body.isSeek = true) (watch : c.watch ≠ some .found) (queue : y.queue = c.seg :: q) :
    s.changesTo a { y with st := .held, rate := 0, ctx := none, queue := q }
        (.seekResult a c.seg.tag false c.stepsDone none none :: y.lowAfterOne a) [c.seg] (s.stepTo a y).1
      ∧ (s.stepTo a y).2 = [] := by
  rw [State.stepTo_of_within within, State.stepEffects_of_seek (s.axis_setAxis_self a y) active st phase all seek]
  have complete := State.changesTo_completeHeld (s.axis_setAxis_self a y)
  have report : (completionReport? a y c).toList = [.seekResult a c.seg.tag false c.stepsDone none none] := by
    cases body : c.seg.body with
    | seek => simp [completionReport?, body, watch]
    | move | dwell | mark =>
      rw [body] at seek
      cases seek
  rw [Axis.completion_of_some a active, Axis.leaving_of_queue active queue, Axis.departed_of_some active, queue, List.tail_cons, report]
    at complete
  exact ⟨complete.of_setAxis, rfl⟩

end StepWithin

end StepIssued

end Sys2Proof.Machine

/-!
PROOF. Motion: a step that falls due, and all that one event sets going (spec 02 R34, R35, R38, R39; 07 R118; 10 R170, R171).
-/

namespace Sys2Proof.Machine

section FaultedStep
variable {s t : State} {a : AxisId} {c : Ctx}

/-! ## A cause raised by a step leaves nothing for the step to do -/

theorem Axis.ctx_faulted (ena : Bool) (x : Axis) : (x.faulted ena).ctx = none := x.ctx_departed

/-- Whatever a first cause does to a stepping axis, the step that raised it has no effects left (R90, log 28). -/
theorem State.stepEffects_raiseCause {cause : Cause} (st : (s.axis a).st ∈ ([.run, .holding, .stopping] : List AxisState))
    (active : (s.axis a).ctx = some c) (steps : c.seg.body.makesSteps = true) :
    (s.raiseCause a cause).stepEffects a = (s.raiseCause a cause, []) := by
  have fallen {u : State} {x : Axis} {ena : Bool} (axis : u.axis a = x.faulted ena) : u.stepEffects a = (u, []) :=
    State.stepEffects_of_none (by rw [axis, Axis.ctx_faulted])
  cases policy : (s.axis a).protection.policy cause with
  | halt =>
    refine fallen (State.changesTo_raiseCause_fault ?_ (.inl policy)).axis
    simp only [List.mem_cons, List.not_mem_nil, or_false] at st ⊢
    rcases st with e | e | e <;> simp [e]
  | brake =>
    cases ended : (c.faultBrake (s.axis a).rate (s.axis a).settings).brakeEnd with
    | running =>
      have axis : (s.raiseCause a cause).axis a = (s.recorded a cause).enterFaultBrake := by
        rw [State.raiseCause_brake_running st active steps policy ended]
        exact State.axis_setAxis_self _ _ _
      have ctx : (s.recorded a cause).enterFaultBrake.ctx = some (c.faultBrake (s.axis a).rate (s.axis a).settings) := by
        rw [State.enterFaultBrake_recorded active]
      rw [State.stepEffects_of_not_run axis ctx (by simp [Axis.enterFaultBrake]),
        State.settleBrake_running axis ctx ended]
    | completed => exact fallen (State.changesTo_raiseCause_brake_ended st active steps policy rfl (.inl ⟨ended, rfl⟩)).axis
    | exhausted => exact fallen (State.changesTo_raiseCause_brake_ended st active steps policy rfl (.inr ⟨ended, rfl⟩)).axis

/-- A step that leaves FE beyond its limit, where that is a first cause (R90, log 28). -/
theorem State.stepTo_of_follow {y : Axis} (exceeded : y.followExceeded = true) (st : y.st ∈ ([.run, .holding, .stopping] : List AxisState))
    (active : y.ctx = some c) (steps : c.seg.body.makesSteps = true) : s.stepTo a y = ((s.setAxis a y).raiseCause a .follow, []) := by
  rw [State.stepTo_of_exceeded exceeded]
  exact State.stepEffects_raiseCause (by rw [State.axis_setAxis_self]; exact st) (by rw [State.axis_setAxis_self]; exact active) steps

/-! ## A step falls due -/

section StepFallsDue
variable {x y : Axis} {due : Nat}

theorem State.stepFallsDue_turned (axis : (s.axis a).pulseOver s.clock = x) (active : x.ctx = some c)
    (stepping : x.stepping = true) (next : c.hasNextStep = true) (undelayed : c.delayed = none)
    (turns : x.turnsFor s.clock c.seg.body.dir y due) :
    s.stepFallsDue a = if due ≤ s.clock then (s.setAxis a y).attemptStep a
      else (s.setAxis a { y with ctx := some { c with delayed := some due } }, []) := by
  obtain ⟨rfl, rfl⟩ := turns.turn
  rw [State.stepFallsDue, ← Axis.pulseOver_eq, axis]
  simp only [active]
  rw [if_pos (by simp [stepping, next, undelayed])]

end StepFallsDue

/-- What the rules say of a step that falls due is what the model does. -/
theorem State.stepComesDue.stepFallsDue_eq {more : List Task} (h : s.stepComesDue a t more) : s.stepFallsDue a = (t, more) := by
  obtain ⟨x, c, q, y, due, axis, st, active, queue, steps, phase, brake, undelayed, left, turns, course⟩ := h
  have stepping : x.stepping = true := (Axis.stepping_of_ctx active).mpr ⟨by simp [st], steps⟩
  have next : c.hasNextStep = true := by
    unfold Ctx.hasNextStep
    rcases phase with e | e <;> simp [e, steps, left]
  obtain ⟨frame, high, pulseEnd⟩ := turns.frame
  have stY : y.st = .run := by rw [frame]; exact st
  have activeY : y.ctx = some c := by rw [frame]; exact active
  have queueY : y.queue = c.seg :: q := by rw [frame]; exact queue
  have setY : y.settings = x.settings := by rw [frame]
  have lowY : y.lowAfterOne a = x.lowAfterOne a := by rw [frame]; rfl
  have going : ¬(y.output.high = true ∧ y.output.pulseEnd ≤ s.clock) := by
    rw [high, pulseEnd, axis]
    exact Axis.going_pulseOver _ _
  rw [State.stepFallsDue_turned axis.symm active stepping next undelayed turns]
  rcases course with ⟨wait, rfl, rfl⟩ | ⟨now, limit, rfl, rfl⟩ | ⟨now, clear, z, k, k', z', course⟩
  · rw [if_neg (Nat.not_le.mpr wait)]
  · rw [if_pos now, State.attemptStep_of_limit (c := c) (by rw [State.axis_setAxis_self]; exact activeY)
      (by rw [State.axis_setAxis_self]; exact limit) (by rw [State.axis_setAxis_self, stY]; decide), State.axis_setAxis_self,
      State.setAxis_setAxis, limitOf_cause]
    have same : { y with ctx := some { c with delayed := none } } = y := by
      rw [← undelayed, ← activeY]
    rw [same]
  · have kept : c.phase ≠ .brake ∧ c.phase ≠ .settle := by rcases phase with e | e <;> simp [e]
    have after : c.afterStep s.clock = k := by
      rw [Ctx.afterStep_eq, k', if_neg (by simp [kept]), undelayed]
    rw [if_pos now, State.attemptStep_of_clear (c := c) (by rw [State.axis_setAxis_self]; exact activeY)
      (by rw [State.axis_setAxis_self]; exact clear) (by rw [State.axis_setAxis_self]; exact going), State.axis_setAxis_self]
    have issued : y.stepped (s.setAxis a y).clock (c.nextRate y.settings) c.seg.body.dir (c.afterStep (s.setAxis a y).clock) = z := by
      rw [z', setY, ← after]
      rfl
    have seg : k.seg = c.seg := by rw [k']
    have phaseK : k.phase ≠ .settle := by rw [k']; exact kept.2
    have stZ : z.st = .run := by rw [z']; exact stY
    have activeZ : z.ctx = some k := by rw [z']; rfl
    have queueZ : z.queue = k.seg :: q := by rw [z', seg]; exact queueY
    have setZ : z.settings = x.settings := by rw [z']; exact setY
    have lowZ : z.lowAfterOne a = x.lowAfterOne a := by rw [← lowY, z']; rfl
    rw [issued, State.stepTo_setAxis]
    rcases course with ⟨exceeded, rfl, rfl⟩ | ⟨within, room, rfl, rfl⟩ | ⟨within, all, n, S, E, r, body, rfl, change⟩
      | ⟨within, all, seek, watch, rfl, change⟩
    · exact State.stepTo_of_follow exceeded (by simp [stZ]) activeZ (by rw [seg]; exact steps)
    · exact State.stepTo_of_more within activeZ stZ phaseK (by rw [seg]; exact room)
    · obtain ⟨change', tasks⟩ := State.stepTo_of_move (s := s) (a := a) within activeZ stZ phaseK (by rw [seg]; exact Nat.le_of_eq all.symm)
        (by rw [seg]; exact body) queueZ
      rw [seg] at change'
      rw [← lowZ, ← setZ] at change
      exact Prod.ext (change'.unique change) (by rw [tasks, k'])
    · obtain ⟨change', tasks⟩ := State.stepTo_of_seek (s := s) (a := a) within activeZ stZ phaseK (by rw [seg]; exact Nat.le_of_eq all.symm)
        (by rw [seg]; exact seek) (by rw [k', watch]; decide) queueZ
      rw [seg, lowZ] at change'
      exact Prod.ext (change'.unique change) tasks

/-! ## All that one event sets going -/

/-- What the rules say of a task is what the model does. -/
theorem State.taskDoes.runTask_eq {task : Task} {more : List Task} (h : s.taskDoes t more task) : s.runTask task = (t, more) := by
  cases task with
  | beginHead => exact State.headBegins.beginHead_eq h
  | activate => exact State.headActivates.activate_eq h
  | stepNow => exact State.stepComesDue.stepFallsDue_eq h

theorem State.settles.settle_eq {tasks : List Task} (h : s.settles tasks t) : s.settle tasks = t := by
  induction h with
  | done s => exact s.settle_nil
  | task first _ ih => rw [State.settle_cons, first.runTask_eq, ih]

theorem State.begins.settle_eq {carry : Option Nat} (h : s.begins a carry t) : s.settle [.beginHead a carry] = t :=
  State.settles.settle_eq h

end FaultedStep

end Sys2Proof.Machine

/-!
PROOF. Start Axis and a load on a starved axis begin the head of the queue (spec 02 R13, R31, R32, R33, R37, R40).
-/

namespace Sys2Proof.Machine

section BeginningSettled
variable {s t : State} {a : AxisId} {seg : Segment} {q : List Segment} {c : Ctx}

/-! ## A beginning, worked off -/

theorem State.settle_single (s : State) (task : Task) : s.settle [task] = settleAll (s.runTask task) := by
  rw [State.settle_cons, List.append_nil]
  rfl

theorem settleAll_nil (s : State) : settleAll (s, []) = s := s.settle_nil

theorem State.settle_begin_of_nil (may : s.mayStart a) (queue : (s.axis a).queue = []) (carry : Option Nat) :
    s.settle [.beginHead a carry] = s.setAxis a { s.axis a with st := .run, rate := 0 } := by
  rw [State.settle_single, State.runTask, State.beginHead_of_nil may queue carry, settleAll_nil]

/-- An ungated MOVE or SEEK begun from standstill: it is active, and its first step falls due (R32, R37). -/
theorem State.settle_begin_of_steps (may : s.mayStart a) (queue : (s.axis a).queue = seg :: q) (gate : seg.gate = none)
    (steps : seg.body.makesSteps = true) :
    s.settle [.beginHead a none] = (s.setAxis a { s.axis a with st := .run, ctx := some seg.freshCtx }).settle [.stepNow a] := by
  rw [State.settle_single, State.runTask, State.beginHead_of_ungated may queue gate]
  show s.settle [.activate a none] = _
  rw [State.settle_single, State.runTask, State.activate_of_makesSteps may queue steps, ite_self]
  rfl

/-! ## A step at once -/

/-- The limit check of a step that nothing delays (R34). -/
theorem State.stepFallsDue_free (active : (s.axis a).ctx = some c) (stepping : (s.axis a).stepping = true)
    (next : c.hasNextStep = true) (undelayed : c.delayed = none) (free : (s.axis a).freeToStep s.clock c.seg.body.dir) :
    s.stepFallsDue a = s.attemptStep a := by
  have low : (s.axis a).output.high = false := free.2.2.2.1
  have axis : (s.axis a).pulseOver s.clock = s.axis a := by rw [Axis.pulseOver, if_neg (Axis.going_of_low low)]
  rw [State.stepFallsDue_turned axis active stepping next undelayed free.turnsFor, if_pos (Nat.le_refl _), State.setAxis_axis]

theorem Segment.hasNextStep_freshCtx (steps : seg.body.makesSteps = true) (some : 0 < seg.body.total) : seg.freshCtx.hasNextStep = true := by
  simp [Ctx.hasNextStep, Segment.freshCtx, steps, some]

/-- The first step from standstill, with nothing to delay it, comes to its limit check. -/
theorem State.settle_fresh_free {x : Axis} (steps : seg.body.makesSteps = true) (some' : 0 < seg.body.total)
    (free : x.freeToStep s.clock seg.body.dir) :
    (s.setAxis a { x with st := .run, ctx := some seg.freshCtx }).settle [.stepNow a]
      = settleAll ((s.setAxis a { x with st := .run, ctx := some seg.freshCtx }).attemptStep a) := by
  have set : (s.setAxis a { x with st := .run, ctx := some seg.freshCtx }).axis a = { x with st := .run, ctx := some seg.freshCtx } :=
    State.axis_setAxis_self _ _ _
  rw [State.settle_single, State.runTask, State.stepFallsDue_free (c := seg.freshCtx) (by rw [set]) ?_
    (Segment.hasNextStep_freshCtx steps some') rfl (by rw [set]; exact free)]
  rw [set]
  exact (Axis.stepping_of_ctx rfl).mpr ⟨by simp, steps⟩

/-! ## A limit met at standstill -/

/-- A limit cause met at standstill leaves the axis in FAULT under either policy (R122, R123). -/
theorem State.raiseCause_standstill {cause : Cause} (st : (s.axis a).st = .run) (active : (s.axis a).ctx = some seg.freshCtx)
    (steps : seg.body.makesSteps = true) (some' : 0 < seg.body.total) (rate : (s.axis a).rate = 0) :
    ((s.raiseCause a cause).axis a).st = .fault := by
  cases policy : (s.axis a).protection.policy cause with
  | halt =>
    rw [(State.changesTo_raiseCause_fault (by simp [st]) (.inl policy)).axis]
    rfl
  | brake =>
    have none : brakeCount 0 (s.axis a).settings.baseRate (s.axis a).settings.decrement = 0 :=
      (brakeCount_of_le _ (Nat.zero_le _))
    have ended : (seg.freshCtx.faultBrake (s.axis a).rate (s.axis a).settings).brakeEnd = .completed :=
      Ctx.faultBrake_ended some' (.inl ⟨rfl, by rw [rate]; exact none⟩)
    rw [(State.changesTo_raiseCause_brake_ended (by simp [st]) active steps policy rfl (.inl ⟨ended, rfl⟩)).axis]
    rfl

/-! ## Start Axis -/

theorem State.mayStart_of_st (idle : (s.axis a).ctx = none) (st : (s.axis a).st ∈ ([.ready, .held, .run, .gate] : List AxisState))
    (out : ∀ g, inSet (s.group g).arrived a = false) : s.mayStart a := ⟨idle, st, out⟩

/-- The state reported is that of the axis, whatever the link. -/
theorem replyState_withLink (t : State) (l : Link) (a : AxisId) :
    replyState (t.withLink l) a = (t.withLink l, [0, (t.axis a).st.code]) := rfl

theorem execStartAxis_eq {f : Frame} {rest : List Frame} (offered : s.offers f rest) (code : f.code = 0x22)
    (payload : f.payload = [axisByte a]) (st : (s.axis a).st = .ready) :
    exec .startAxis s = .next ((s.settle [.beginHead a none]).answered f rest [0, ((s.settle [.beginHead a none]).axis a).st.code]) := by
  refine congrArg Host.Outcome.next (State.takeRequest_axis offered code (by rw [payload]; rfl) (by rw [payload]; rfl) (fun l => ?_)
    (s.motionOnly_settle _))
  rw [if_neg (by simp [st]), State.withLink_settle]
  exact replyState_withLink _ l a

end BeginningSettled

/-- Settles O24. -/
theorem startAxisBeginsTheHead : Obligations.StartAxisBeginsTheHead := by
  rintro s f rest a x rfl offered code payload ready idle out
  have may : s.mayStart a := State.mayStart_of_st idle (by simp [ready]) out
  have start := execStartAxis_eq offered code payload ready
  refine ⟨fun queue => ?_, fun t begins => ?_, fun seg q cause u queue gate steps some' free limit e raised => ?_,
    fun seg q y u queue gate steps some' free clear step exceeded raised => ?_⟩
  · rw [start, State.settle_begin_of_nil may queue, State.axis_setAxis_self]
    rfl
  · rw [start, begins.settle_eq]
  · have set : (s.setAxis a { s.axis a with st := .run, ctx := some seg.freshCtx }).axis a
        = { s.axis a with st := .run, ctx := some seg.freshCtx } := State.axis_setAxis_self _ _ _
    have withheld : s.settle [.beginHead a none] = u := by
      rw [State.settle_begin_of_steps may queue gate steps, State.settle_fresh_free steps some' free,
        State.attemptStep_of_limit (c := seg.freshCtx) (by rw [set]) (by rw [set]; exact limit) (by rw [set]; simp), settleAll_nil,
        raised, e, limitOf_cause, set, State.setAxis_setAxis]
      rfl
    refine ⟨by rw [start, withheld], fun rate => ?_⟩
    rw [raised, State.raiseCause_standstill (seg := seg) (by rw [set]) (by rw [set]) steps some' (by rw [set]; exact rate)]
    rfl
  · have set : (s.setAxis a { s.axis a with st := .run, ctx := some seg.freshCtx }).axis a
        = { s.axis a with st := .run, ctx := some seg.freshCtx } := State.axis_setAxis_self _ _ _
    have issued : s.settle [.beginHead a none] = u := by
      rw [State.settle_begin_of_steps may queue gate steps, State.settle_fresh_free steps some' free,
        State.attemptStep_of_clear (c := seg.freshCtx) (by rw [set]) (by rw [set]; exact clear)
          (by rw [set]; exact Axis.going_of_low free.2.2.2.1), set, State.stepTo_setAxis, raised]
      refine (congrArg (fun y => settleAll (s.stepTo a y)) step.symm).trans ?_
      rw [State.stepTo_of_follow exceeded (by simp [step]) (c := { seg.freshCtx with stepsDone := 1, lastStep := some s.clock })
        (by rw [step]; rfl) steps, settleAll_nil]
    rw [start, issued]

/-- Settles O18. -/
theorem loadOnAStarvedAxisBeginsTheHead : Obligations.LoadOnAStarvedAxisBeginsTheHead := by
  intro s f rest a n seg segs offered code low high length byte count read fits free run idle empty out
  have len : (seg :: segs).length = n := (readRecords_gate read).1.trans (length_recordsOf _ _)
  obtain ⟨touches, axis, pool, groups, reports⟩ := s.enqueue_spec (seg :: segs) a
  have starved : (s.axis a).starved = true := (Axis.starved_iff _).mpr ⟨run, idle, empty⟩
  have depth : (s.axis a).depth = 0 := by simp [Axis.depth, empty]
  refine ⟨s.enqueue a (seg :: segs), ⟨axis, touches.2, pool, groups, ?_⟩, fun t begins => ?_⟩
  · rw [← reports]
    exact touches.1
  · refine execLoadSegments_admitted offered code low high length byte count read (by omega) free ?_
    rw [State.afterLoad, if_pos starved, begins.settle_eq]

end Sys2Proof.Machine

/-!
PROOF. Hold, Resume and Stop Axis: what they do to the axis and, over any link, the answer (spec 03 R58 to R66).
-/

namespace Sys2Proof.Machine

section LinkUnread
variable (s : State) (l : Link) (a : AxisId)

/-! ## None of them reads the link -/

theorem State.withLink_hold : (s.withLink l).hold a = (s.hold a).withLink l := by
  unfold State.hold
  dsimp only
  rw [State.axis_withLink]
  cases (s.axis a).ctx with
  | none => simp
  | some c =>
    dsimp only
    split <;> simp

theorem State.withLink_resume : (s.withLink l).resume a = (s.resume a).withLink l := by
  unfold State.resume
  dsimp only
  rw [State.axis_withLink]
  cases (s.axis a).ctx with
  | none => simp
  | some c =>
    dsimp only
    split
    · simp
    · split <;> simp

theorem State.withLink_stopHalt (flush : Bool) : (s.withLink l).stopHalt a flush = (s.stopHalt a flush).withLink l := by
  simp [State.stopHalt]

theorem State.withLink_stopBrake (flush : Bool) : (s.withLink l).stopBrake a flush = (s.stopBrake a flush).withLink l := by
  unfold State.stopBrake
  dsimp only
  rw [State.axis_withLink]
  split
  · rfl
  · split <;> simp

/-! ## All of them move axes alone -/

theorem State.motionOnly_hold : s.motionOnly (s.hold a) := by
  unfold State.hold
  dsimp only
  cases (s.axis a).ctx with
  | none => exact ((s.touches_withdraw a).trans (State.touches_enterHeld _ a)).1
  | some c =>
    dsimp only
    split
    · exact ((s.touches_setAxis a _).trans (State.touches_settleBrake _ a)).1
    · exact ((s.touches_setAxis a _).trans (State.touches_enterHeld _ a)).1

theorem State.motionOnly_resume : s.motionOnly (s.resume a) := by
  unfold State.resume
  dsimp only
  cases (s.axis a).ctx with
  | none => exact s.motionOnly_settle _
  | some c =>
    dsimp only
    split
    · exact (s.touches_setAxis a _).1.trans (State.motionOnly_settle _ _)
    · split
      · exact (s.touches_setAxis a _).1.trans (motionOnly_settleAll (State.touches_completeAtRest _ a).1)
      · exact (s.touches_setAxis a _).1

theorem State.motionOnly_stopHalt (flush : Bool) : s.motionOnly (s.stopHalt a flush) :=
  (((s.touches_withdraw a).trans (State.touches_modAxis _ a _)).trans (State.touches_reachReady _ a)).1

theorem State.motionOnly_stopBrake (flush : Bool) : s.motionOnly (s.stopBrake a flush) := by
  unfold State.stopBrake
  dsimp only
  split
  · exact .refl s
  · split
    · exact ((s.touches_setAxis a _).trans (State.touches_settleBrake _ a)).1
    · exact (((s.touches_withdraw a).trans (State.touches_modAxis _ a _)).trans (State.touches_reachReady _ a)).1

end LinkUnread

section HoldAndResume
variable {s : State} {a : AxisId} {f : Frame} {rest : List Frame}

theorem execHoldAxis_eq (offered : s.offers f rest) (code : f.code = 0x23) (payload : f.payload = [axisByte a])
    (st : (s.axis a).st = .run ∨ (s.axis a).st = .gate) :
    exec .holdAxis s = .next ((s.hold a).answered f rest [0, ((s.hold a).axis a).st.code]) := by
  refine congrArg Host.Outcome.next (State.takeRequest_axis offered code (by rw [payload]; rfl) (by rw [payload]; rfl) (fun l => ?_)
    (s.motionOnly_hold a))
  rw [if_pos (by simpa using st), State.withLink_hold]
  exact replyState_withLink _ l a

theorem execResumeAxis_eq (offered : s.offers f rest) (code : f.code = 0x24) (payload : f.payload = [axisByte a])
    (st : (s.axis a).st = .held) :
    exec .resumeAxis s = .next ((s.resume a).answered f rest [0, ((s.resume a).axis a).st.code]) := by
  refine congrArg Host.Outcome.next (State.takeRequest_axis offered code (by rw [payload]; rfl) (by rw [payload]; rfl) (fun l => ?_)
    (s.motionOnly_resume a))
  rw [if_neg (by simp [st]), State.withLink_resume]
  exact replyState_withLink _ l a

/-! ## Resume Axis -/

theorem Ctx.openWatch_eq (c : Ctx) : c.openWatch = { c with watch := if c.watch = some .closed then some .opened else c.watch } := by
  unfold Ctx.openWatch
  rcases c.watch with _ | w
  · rfl
  · cases w <;> rfl

section Resume
variable {c : Ctx}

theorem State.resume_of_none (idle : (s.axis a).ctx = none) : s.resume a = s.settle [.beginHead a none] := by
  simp only [State.resume, idle]

/-- The context of a held MOVE or SEEK that goes on (R62, R71). -/
def Ctx.onRamp (c : Ctx) : Ctx :=
  { c with phase := .ramp, rampSteps := 0, watch := if c.watch = some .closed then some .opened else c.watch }

theorem Ctx.afterStep_onRamp (undelayed : c.delayed = none) (now : Nat) : c.onRamp.afterStep now = { c with
    phase := .ramp, stepsDone := c.stepsDone + 1, rampSteps := 1, lastStep := some now
    watch := if c.watch = some .closed then some .opened else c.watch } := by
  obtain ⟨seg, phase, stepsDone, dwellLeft, lastStep, brake, rampSteps, delayed, watch, captured, edgePending⟩ := c
  subst undelayed
  rfl

theorem State.resume_of_steps (active : (s.axis a).ctx = some c) (steps : c.seg.body.makesSteps = true) :
    s.resume a = (s.setAxis a { s.axis a with st := .run, ctx := some c.onRamp }).settle [.stepNow a] := by
  simp only [State.resume, active, if_pos steps, Ctx.openWatch_eq, Ctx.onRamp]

/-- A step in RUN that nothing delays, withholds or ends. -/
theorem State.settle_step_more {x y : Axis} (axis : s.axis a = x) (active : x.ctx = some c) (run : x.st = .run)
    (steps : c.seg.body.makesSteps = true) (phase : c.phase = .stepping ∨ c.phase = .ramp) (room : c.stepsDone + 1 < c.seg.body.total)
    (undelayed : c.delayed = none) (free : x.freeToStep s.clock c.seg.body.dir) (clear : x.atLimit c.seg.body.dir = false)
    (step : y = x.stepped s.clock (c.nextRate x.settings) c.seg.body.dir (c.afterStep s.clock)) (within : y.followExceeded = false) :
    s.settle [.stepNow a] = s.setAxis a y := by
  subst axis
  have stepping : (s.axis a).stepping = true := (Axis.stepping_of_ctx active).mpr ⟨by simp [run], steps⟩
  have next : c.hasNextStep = true := by
    have left : c.stepsDone < c.seg.body.total := by omega
    rcases phase with e | e <;> simp [Ctx.hasNextStep, e, steps, left]
  have moves : (c.afterStep s.clock).phase ≠ .settle := by
    show c.phase ≠ .settle
    rcases phase with e | e <;> simp [e]
  rw [State.settle_single, State.runTask, State.stepFallsDue_free active stepping next undelayed free,
    State.attemptStep_of_clear active clear (Axis.going_of_low free.2.2.2.1), ← step,
    State.stepTo_of_more within (by rw [step]; rfl) (by rw [step]; exact run) moves room, settleAll_nil]

theorem State.resume_of_dwell {d : Nat} {r : Bool} (active : (s.axis a).ctx = some c) (body : c.seg.body = .dwell d r) :
    s.resume a = if c.dwellLeft = 0
      then settleAll ((s.setAxis a { s.axis a with st := .run, ctx := some { c with phase := .timing } }).completeAtRest a)
      else s.setAxis a { s.axis a with st := .run, ctx := some { c with phase := .timing } } := by
  have still : ¬c.seg.body.makesSteps = true := by simp [body, SegBody.makesSteps]
  simp only [State.resume, active, if_neg still]

end Resume

/-! ## What stands after a departure in RUN -/

/-- A segment that completes in RUN at standstill (R43, R74). -/
theorem State.changesTo_completeAtRest_of_some {c : Ctx} {q : List Segment} {x : Axis} (axis : s.axis a = x) (active : x.ctx = some c)
    (queue : x.queue = c.seg :: q) :
    s.changesTo a { x with rate := 0, ctx := none, queue := q } ((completionReport? a x c).toList ++ x.lowAfterOne a) [c.seg]
      (s.completeAtRest a).1 := by
  subst axis
  have change := s.changesTo_completeAtRest a
  rw [Axis.completion_of_some a active, Axis.leaving_of_queue active queue, Axis.departed_of_some active, queue] at change
  exact change

theorem settleAll_completeAtRest (s : State) (a : AxisId) :
    settleAll (s.completeAtRest a) = (s.completeAtRest a).1.settle [.beginHead a none] := rfl

theorem completionReport?_dwell {c : Ctx} {d : Nat} {r : Bool} (a : AxisId) (x : Axis) (body : c.seg.body = .dwell d r) :
    (completionReport? a x c).toList = if r then [.segmentDone a c.seg.tag x.position] else [] := by
  simp only [completionReport?, body]
  cases r <;> rfl

/-- Behind a change that leaves an axis without an active segment, and in no arrival set, the next head may begin. -/
theorem State.changesTo.mayStart {t : State} {z : Axis} {reports : List ReportBody} {gone : List Segment}
    (change : s.changesTo a z reports gone t) (idle : z.ctx = none) (run : z.st = .run)
    (out : ∀ g, inSet (s.group g).arrived a = false) : t.mayStart a := by
  refine State.mayStart_of_st (by rw [change.axis, idle]) (by rw [change.axis, run]; decide) fun g => ?_
  rw [change.group]
  exact out g

/-- With nothing behind, the axis is starved as it stands (R40). -/
theorem State.changesTo.settle_begin {t : State} {z : Axis} {reports : List ReportBody} {gone : List Segment}
    (change : s.changesTo a z reports gone t) (idle : z.ctx = none) (run : z.st = .run)
    (out : ∀ g, inSet (s.group g).arrived a = false) (empty : z.queue = []) (carry : Option Nat) :
    t.settle [.beginHead a carry] = t.setAxis a { z with rate := 0 } := by
  rw [State.settle_begin_of_nil (change.mayStart idle run out) (by rw [change.axis, empty]), change.axis, ← run]

/-- At standstill already, nothing changes. -/
theorem State.changesTo.settle_begin_still {t : State} {z : Axis} {reports : List ReportBody} {gone : List Segment}
    (change : s.changesTo a z reports gone t) (idle : z.ctx = none) (run : z.st = .run) (still : z.rate = 0)
    (out : ∀ g, inSet (s.group g).arrived a = false) (empty : z.queue = []) (carry : Option Nat) :
    t.settle [.beginHead a carry] = t := by
  rw [change.settle_begin idle run out empty, ← still]
  refine Eq.trans ?_ (State.setAxis_axis t a)
  rw [change.axis]

end HoldAndResume

/-- Settles O27. -/
theorem resumeAxisGoesOn : Obligations.ResumeAxisGoesOn := by
  rintro s f rest a x rfl offered code payload held
  have resume := execResumeAxis_eq offered code payload held
  refine ⟨fun c active steps brake undelayed room free clear y step within => ?_, fun c t active steps brake undelayed settles => ?_,
    fun c d r active body left => ?_, fun c d r q z done active body none queue out place bodies => ?_, fun idle out => ?_⟩
  · have issued : s.resume a = s.setAxis a y := by
      rw [State.resume_of_steps active steps, State.settle_step_more (c := c.onRamp)
        (State.axis_setAxis_self s a { s.axis a with st := .run, ctx := some c.onRamp }) rfl rfl steps (.inr rfl) room
        undelayed free clear (y := y) ?_ within, State.setAxis_setAxis]
      rw [step, ← Ctx.afterStep_onRamp undelayed]
      rfl
    rw [resume, issued, State.axis_setAxis_self, step]
    rfl
  · rw [resume, (State.resume_of_steps active steps).trans settles.settle_eq]
  · rw [resume, State.resume_of_dwell active body, if_neg (by omega), State.axis_setAxis_self]
    rfl
  · have change := State.changesTo_completeAtRest_of_some (c := { c with phase := .timing }) (q := q)
      (State.axis_setAxis_self s a { s.axis a with st := .run, ctx := some { c with phase := .timing } }) rfl queue
    have report := completionReport?_dwell (c := { c with phase := .timing }) a
      { s.axis a with st := .run, ctx := some { c with phase := .timing } } body
    have change := change.of_setAxis.of_eq (z := z) (q := done) (by rw [place]) (by rw [report, bodies]; rfl) rfl
    have begin := (State.resume_of_dwell active body).trans ((if_pos none).trans (settleAll_completeAtRest _ a))
    refine ⟨_, change, fun empty => ?_, fun t begins => ?_⟩
    · have still := change.settle_begin_still (by rw [place]) (by rw [place]) (by rw [place]) out (by rw [place]; exact empty) Option.none
      have st : ((s.resume a).axis a).st = .run := by
        rw [begin, still, change.axis, place]
      rw [resume, st, begin, still]
      rfl
    · rw [resume, begin, begins.settle_eq]
  · have may : s.mayStart a := State.mayStart_of_st idle (by simp [held]) out
    refine ⟨fun queue => ?_, fun t begins => ?_⟩
    · rw [resume, State.resume_of_none idle, State.settle_begin_of_nil may queue, State.axis_setAxis_self]
      rfl
    · rw [resume, State.resume_of_none idle, begins.settle_eq]

end Sys2Proof.Machine

/-!
PROOF. Hold and Stop Axis (spec 03 R58, R59, R64 to R66; 04 R77, R78; 06 R106).
-/

namespace Sys2Proof.Machine

section Hold
variable {s : State} {a : AxisId} {c : Ctx}

/-! ## Hold -/

theorem State.hold_of_none (idle : (s.axis a).ctx = none) : s.hold a = (s.withdraw a).setAxis a { s.axis a with st := .held, rate := 0 } := by
  simp only [State.hold, idle, State.enterHeld, State.modAxis_eq, State.axis_withdraw]

theorem State.hold_of_still (active : (s.axis a).ctx = some c) (still : c.seg.body.makesSteps = false) :
    s.hold a = s.setAxis a { s.axis a with st := .held, rate := 0, ctx := some { c with phase := .paused } } := by
  have none : ¬c.seg.body.makesSteps = true := by simp [still]
  simp only [State.hold, active, if_neg none, State.enterHeld, State.modAxis_eq, State.axis_setAxis_self, State.setAxis_setAxis]

theorem State.hold_of_steps (active : (s.axis a).ctx = some c) (steps : c.seg.body.makesSteps = true) :
    s.hold a = (s.setAxis a { s.axis a with
      st := .holding
      ctx := some (if c.phase = .settle then c else c.beginBrake .brake (s.axis a).rate (s.axis a).settings) }).settleBrake a := by
  simp only [State.hold, active, if_pos steps]

end Hold

/-- Settles O26. -/
theorem holdAxisPausesTheAxis : Obligations.HoldAxisPausesTheAxis := by
  rintro s f rest a x rfl offered code payload
  have hold := execHoldAxis_eq (s := s) (a := a) offered code payload
  refine ⟨fun g gate idle head => ?_, fun run idle => ?_, fun c d r run active body => ?_,
    fun c N run active steps phase room number => ?_, fun c b run active steps phase brake going room => ?_⟩
  · rw [hold (.inr gate), State.hold_of_none idle, State.withdraw_of_gate gate head, State.axis_setAxis_self, State.setGroup_setAxis]
    rfl
  · rw [hold (.inl run), State.hold_of_none idle, State.withdraw_of_ne (by simp [run]), State.axis_setAxis_self]
    rfl
  · rw [hold (.inl run), State.hold_of_still active (by rw [body]; rfl), State.axis_setAxis_self]
    rfl
  · have set := State.axis_setAxis_self s a { s.axis a with
      st := .holding, ctx := some (c.beginBrake .brake (s.axis a).rate (s.axis a).settings) }
    have braked := State.hold_of_steps active steps
    rw [if_neg phase] at braked
    refine ⟨fun some' => ?_, fun none => ?_⟩
    · rw [State.settleBrake_running set rfl (Ctx.brakeEnd_running rfl room (number ▸ some'))] at braked
      rw [hold (.inl run), braked, set, number]
      rfl
    · rw [State.settleBrake_holding_completed set rfl rfl (Ctx.brakeEnd_completed rfl room (Nat.le_of_eq (number ▸ none))),
        (State.changesTo_holdBrakeDone_of_ne set (by simp [Ctx.beginBrake])).eq_setAxis] at braked
      have paused : s.hold a = s.setAxis a { s.axis a with
          st := .held
          rate := 0
          ctx := some { c with
            phase := .paused, brake := Option.none, delayed := Option.none, edgePending := false
            watch := if c.watch = some .opened then some .closed else c.watch } } := by
        rw [braked, State.setAxis_setAxis, Axis.heldPaused, Ctx.closeWatch_eq]
        rfl
      rw [hold (.inl run), paused, State.axis_setAxis_self]
      rfl
  · have set := State.axis_setAxis_self s a { s.axis a with st := .holding, ctx := some c }
    have braked := State.hold_of_steps active steps
    rw [if_pos phase, State.settleBrake_running set rfl (Ctx.brakeEnd_running brake room going)] at braked
    rw [hold (.inl run), braked, set, ← active]
    rfl

/-! ## Stop -/

section Stop
variable {s t : State} {a : AxisId} {c : Ctx} {q : List Segment} {x : Axis} {f : Frame} {rest : List Frame} {mode flags : Byte}

theorem execStopAxis_eq (offered : s.offers f rest) (code : f.code = 0x25) (payload : f.payload = [axisByte a, mode, flags])
    (st : (s.axis a).st.refusesStop = false)
    (stop : mode = 1 ∧ t = s.stopHalt a (flags.getLsbD 0) ∨ mode = 0 ∧ t = s.stopBrake a (flags.getLsbD 0)) :
    exec .stopAxis s = .next (t.answered f rest [0, (t.axis a).st.code]) := by
  have bytes : byteAt f.payload 1 = mode ∧ byteAt f.payload 2 = flags := by rw [payload]; exact ⟨rfl, rfl⟩
  have motion : s.motionOnly t := by
    rcases stop with ⟨-, rfl⟩ | ⟨-, rfl⟩
    · exact s.motionOnly_stopHalt a _
    · exact s.motionOnly_stopBrake a _
  refine congrArg Host.Outcome.next (State.takeRequest_axis offered code (by rw [payload]; rfl) (by rw [payload]; rfl) (fun l => ?_) motion)
  rw [bytes.1, bytes.2, State.axis_withLink]
  rcases stop with ⟨rfl, rfl⟩ | ⟨rfl, rfl⟩
  · refine (if_neg (by simp [st])).trans ?_
    simp only [if_true, State.withLink_stopHalt]
    exact replyState_withLink _ l a
  · refine (if_neg (by simp [st])).trans ?_
    simp only [Bool.false_eq_true, if_false, State.withLink_stopBrake]
    exact replyState_withLink _ l a

/-- The axis once it is READY, with nothing active before (R65). -/
theorem Axis.readied_of_none (idle : x.ctx = none) : x.readied = { x with
    st := .ready, rate := 0, ena := true, owedFlush := false, queue := if x.owedFlush then [] else x.queue } := by
  rw [Axis.readied, Axis.departed_of_none idle]

theorem Axis.flushed_of_none (idle : x.ctx = none) : x.flushed = if x.owedFlush then x.queue else [] := by
  rw [Axis.flushed, Axis.leaving_of_none idle, Axis.departed_of_none idle, List.nil_append]

/-- The axis once it is READY, its active segment aborted (R65). -/
theorem Axis.readied_of_some (active : x.ctx = some c) (queue : x.queue = c.seg :: q) : x.readied = { x with
    st := .ready, rate := 0, ena := true, ctx := none, owedFlush := false, queue := if x.owedFlush then [] else q } := by
  rw [Axis.readied, Axis.departed_of_some active, queue]
  rfl

theorem Axis.flushed_of_some (active : x.ctx = some c) (queue : x.queue = c.seg :: q) :
    x.flushed = if x.owedFlush then x.queue else [c.seg] := by
  rw [Axis.flushed, Axis.leaving_of_queue active queue, Axis.departed_of_some active, queue]
  cases x.owedFlush <;> rfl

/-- A Stop that reaches READY at once, the flush owed being `flush` (R64, R66). -/
def State.stopReady (s : State) (a : AxisId) (flush : Bool) : State :=
  ((s.withdraw a).setAxis a { s.axis a with owedFlush := flush }).reachReady a

theorem State.stopHalt_eq (flush : Bool) :
    s.stopHalt a flush = s.stopReady a (flush || (decide ((s.axis a).st = .stopping) && (s.axis a).owedFlush)) := by
  simp only [State.stopHalt, State.stopReady, State.modAxis_eq, State.axis_withdraw]

theorem State.stopBrake_of_still (still : (s.axis a).stepping = false) (st : (s.axis a).st ≠ .stopping) (flush : Bool) :
    s.stopBrake a flush = s.stopReady a flush := by
  have idle : ¬(s.axis a).stepping = true := by simp [still]
  simp only [State.stopBrake, if_neg st, if_neg idle, State.stopReady, State.modAxis_eq, State.axis_withdraw]

theorem State.stopBrake_of_stepping (active : (s.axis a).ctx = some c) (stepping : (s.axis a).stepping = true)
    (st : (s.axis a).st ≠ .stopping) (flush : Bool) :
    s.stopBrake a flush = (s.setAxis a { s.axis a with
      st := .stopping
      ctx := some (if c.brake.isSome then c else c.beginBrake .brake (s.axis a).rate (s.axis a).settings).closeWatch
      owedFlush := flush }).settleBrake a := by
  simp only [State.stopBrake, if_neg st, if_pos stepping, active]

/-- READY at once from an axis that has no active segment (R65). -/
theorem State.changesTo_reachReady_idle (idle : (s.axis a).ctx = none) (flush : Bool) :
    s.changesTo a { s.axis a with
        st := .ready, rate := 0, ena := true, owedFlush := false, queue := if flush then [] else (s.axis a).queue } []
      (if flush then (s.axis a).queue else []) ((s.setAxis a { s.axis a with owedFlush := flush }).reachReady a) := by
  have ready := State.changesTo_reachReady (s.setAxis a { s.axis a with owedFlush := flush }) a
  rw [State.axis_setAxis_self] at ready
  exact ready.of_setAxis.of_eq (Axis.readied_of_none (x := { s.axis a with owedFlush := flush }) idle)
    (Axis.abortion_of_none (x := { s.axis a with owedFlush := flush }) a .stopped idle)
    (Axis.flushed_of_none (x := { s.axis a with owedFlush := flush }) idle)

/-- READY at once from an axis at no barrier, its active segment aborted (R65). -/
theorem State.changesTo_stopReady (gate : (s.axis a).st ≠ .gate) (active : (s.axis a).ctx = some c)
    (queue : (s.axis a).queue = c.seg :: q) (flush : Bool) :
    s.changesTo a { s.axis a with
        st := .ready, rate := 0, ena := true, ctx := none, owedFlush := false, queue := if flush then [] else q }
      (.segmentAborted a c.seg.tag .stopped c.stepsDone :: (s.axis a).lowAfterOne a) (if flush then (s.axis a).queue else [c.seg])
      (s.stopReady a flush) := by
  have ready := State.changesTo_reachReady (s.setAxis a { s.axis a with owedFlush := flush }) a
  rw [State.axis_setAxis_self] at ready
  rw [State.stopReady, State.withdraw_of_ne gate]
  exact ready.of_setAxis.of_eq (Axis.readied_of_some (x := { s.axis a with owedFlush := flush }) active queue)
    (Axis.abortion_of_some (x := { s.axis a with owedFlush := flush }) a .stopped active)
    (Axis.flushed_of_some (x := { s.axis a with owedFlush := flush }) active queue)

/-- A stop brake of no steps ends as it begins (R64, R66). -/
theorem State.changesTo_stopBrake_ended (active : (s.axis a).ctx = some c) (stepping : (s.axis a).stepping = true)
    (moving : (s.axis a).st ≠ .stopping) (unbraked : c.brake = none) (room : c.stepsDone < c.seg.body.total)
    (zero : brakeCount (s.axis a).rate (s.axis a).settings.baseRate (s.axis a).settings.decrement = 0)
    (queue : (s.axis a).queue = c.seg :: q) (flush : Bool) :
    s.changesTo a { s.axis a with
        st := .ready, rate := 0, ena := true, ctx := none, owedFlush := false, queue := if flush then [] else q }
      (.segmentAborted a c.seg.tag .stopped c.stepsDone :: (s.axis a).lowAfterOne a) (if flush then (s.axis a).queue else [c.seg])
      (s.stopBrake a flush) := by
  have set := State.axis_setAxis_self s a { s.axis a with
    st := .stopping
    ctx := some (c.beginBrake .brake (s.axis a).rate (s.axis a).settings).closeWatch
    owedFlush := flush }
  have ended : (c.beginBrake .brake (s.axis a).rate (s.axis a).settings).closeWatch.brakeEnd = .completed := by
    rw [Ctx.closeWatch_eq]
    exact Ctx.brakeEnd_completed rfl room (Nat.le_of_eq zero)
  have frame : (c.beginBrake .brake (s.axis a).rate (s.axis a).settings).closeWatch.seg = c.seg
      ∧ (c.beginBrake .brake (s.axis a).rate (s.axis a).settings).closeWatch.stepsDone = c.stepsDone := by
    rw [Ctx.closeWatch_eq]
    exact ⟨rfl, rfl⟩
  have ready := State.changesTo_settleBrake_stopping_completed set rfl rfl ended
  have fresh : ¬c.brake.isSome = true := by simp [unbraked]
  rw [State.stopBrake_of_stepping active stepping moving, if_neg fresh]
  generalize (c.beginBrake .brake (s.axis a).rate (s.axis a).settings).closeWatch = k at set ended frame ready ⊢
  obtain ⟨seg, done⟩ := frame
  have head : (s.axis a).queue = k.seg :: q := by rw [queue, seg]
  refine ready.of_setAxis.of_eq (Axis.readied_of_some rfl head) ?_ ?_
  · rw [Axis.abortion_of_some a .stopped rfl, seg, done]
    rfl
  · rw [Axis.flushed_of_some (c := k) (q := q) rfl (by exact head), seg]

/-- A stop with BRAKE where nothing is left to brake (R64, R65). -/
theorem State.stopBrake_ended (active : (s.axis a).ctx = some c) (queue : (s.axis a).queue = c.seg :: q)
    (st : (s.axis a).st = .held ∨ (s.axis a).st = .run ∧ c.seg.body.makesSteps = false
      ∨ (s.axis a).st = .run ∧ c.seg.body.makesSteps = true ∧ c.brake = none ∧ c.stepsDone < c.seg.body.total
        ∧ brakeCount (s.axis a).rate (s.axis a).settings.baseRate (s.axis a).settings.decrement = 0) (flush : Bool) :
    (s.axis a).st.refusesStop = false ∧ (s.axis a).st ≠ .stopping ∧ ∃ t, t = s.stopBrake a flush
      ∧ s.changesTo a { s.axis a with
          st := .ready, rate := 0, ena := true, ctx := none, owedFlush := false, queue := if flush then [] else q }
        (.segmentAborted a c.seg.tag .stopped c.stepsDone :: (s.axis a).lowAfterOne a) (if flush then (s.axis a).queue else [c.seg]) t := by
  have gate : (s.axis a).st ≠ .gate := by rcases st with e | ⟨e, -⟩ | ⟨e, -⟩ <;> simp [e]
  have moving : (s.axis a).st ≠ .stopping := by rcases st with e | ⟨e, -⟩ | ⟨e, -⟩ <;> simp [e]
  have taken : (s.axis a).st.refusesStop = false := by rcases st with e | ⟨e, -⟩ | ⟨e, -⟩ <;> simp [e, AxisState.refusesStop]
  refine ⟨taken, moving, _, rfl, ?_⟩
  rcases st with held | ⟨run, still⟩ | ⟨run, steps, unbraked, room, zero⟩
  · rw [State.stopBrake_of_still (by simp [Axis.stepping, held]) moving]
    exact State.changesTo_stopReady gate active queue flush
  · rw [State.stopBrake_of_still (by simp [Axis.stepping, active, still]) moving]
    exact State.changesTo_stopReady gate active queue flush
  · have stepping : (s.axis a).stepping = true := (Axis.stepping_of_ctx active).mpr ⟨by simp [run], steps⟩
    exact State.changesTo_stopBrake_ended active stepping moving unbraked room zero queue flush

/-- READY at once from a barrier, the axis withdrawn from its arrival set (R64, R65, R106). -/
theorem State.stopReady_gate {g : GroupId} (gate : (s.axis a).st = .gate) (idle : (s.axis a).ctx = none)
    (head : (s.axis a).headGate = some g) (flush : Bool) :
    s.motionOnly (s.stopReady a flush)
      ∧ (s.stopReady a flush).axis a = { s.axis a with
          st := .ready, rate := 0, ena := true, owedFlush := false, queue := if flush then [] else (s.axis a).queue }
      ∧ (∀ b, b ≠ a → (s.stopReady a flush).axis b = s.axis b)
      ∧ (s.stopReady a flush).poolFree = s.poolFree + (if flush then (s.axis a).depth else 0)
      ∧ (s.stopReady a flush).group g = { s.groupLess (if flush then (s.axis a).queue else []) g with
          arrived := (s.group g).arrived &&& ~~~axisBit a
          timer := if (s.group g).arrived &&& ~~~axisBit a = 0 then none else (s.group g).timer }
      ∧ (∀ h, h ≠ g → (s.stopReady a flush).group h = s.groupLess (if flush then (s.axis a).queue else []) h)
      ∧ (s.stopReady a flush).reports = s.reports := by
  rw [State.stopReady, State.withdraw_of_gate gate head]
  generalize away : { s.group g with
    arrived := (s.group g).arrived &&& ~~~axisBit a
    timer := if (s.group g).arrived &&& ~~~axisBit a = 0 then none else (s.group g).timer } = left
  have change := State.changesTo_reachReady_idle (s := s.setGroup g left) (a := a) idle flush
  have motion : s.motionOnly (s.setGroup g left) := rfl
  have motion := motion.trans change.touches.1
  obtain ⟨axis, others, pool, groups, reports, -⟩ := change
  refine ⟨motion, axis, others, pool.trans ?_, (groups g).trans ?_, fun h ne => (groups h).trans ?_, reports⟩
  · cases flush <;> rfl
  · rw [State.groupLess, State.group_setGroup_self, ← away]
    rfl
  · rw [State.groupLess, State.group_setGroup_ne _ _ ne]
    rfl

end Stop

/-- Settles O28. -/
theorem stopAxisEndsInReady : Obligations.StopAxisEndsInReady := by
  rintro s f rest a x mode flags rfl offered code payload
  have stop {t : State} := execStopAxis_eq (t := t) offered code payload
  have stopped (st : (s.axis a).st.refusesStop = false) (modes : mode = 0 ∨ mode = 1) (still : (s.axis a).stepping = false)
      (moving : (s.axis a).st ≠ .stopping) (reached : ((s.stopReady a (flags.getLsbD 0)).axis a).st = .ready) :
      exec .stopAxis s = .next ((s.stopReady a (flags.getLsbD 0)).answered f rest [0, 1]) := by
    have outcome := stop st (t := s.stopReady a (flags.getLsbD 0))
      (modes.symm.imp (fun e => ⟨e, by rw [State.stopHalt_eq, decide_eq_false moving, Bool.false_and, Bool.or_false]⟩)
        fun e => ⟨e, (State.stopBrake_of_still still moving _).symm⟩)
    rw [reached] at outcome
    exact outcome
  refine ⟨fun zero one => ?_, fun c N brakes run active steps unbraked room number some' => ?_,
    fun c b brakes st active steps braked going room => ?_, fun brakes stopping => ?_, fun modes st idle => ?_,
    fun g modes gate idle head => ?_, fun c q active queue gate modes => ?_⟩
  · have bad : twoValued (byteAt f.payload 1) = none := by
      rw [payload]
      exact (twoValued_eq_none_iff mode).mpr ⟨zero, one⟩
    refine congrArg Host.Outcome.next (State.takeRequest_axis offered code (by rw [payload]; rfl) (by rw [payload]; rfl) (fun l => ?_)
      (.refl s))
    rw [bad]
    rfl
  · have set := State.axis_setAxis_self s a { s.axis a with
      st := .stopping
      ctx := some (c.beginBrake .brake (s.axis a).rate (s.axis a).settings).closeWatch
      owedFlush := flags.getLsbD 0 }
    have stepping : (s.axis a).stepping = true := (Axis.stepping_of_ctx active).mpr ⟨by simp [run], steps⟩
    have braking := State.stopBrake_of_stepping active stepping (by simp [run]) (flags.getLsbD 0)
    rw [if_neg (by simp [unbraked]), State.settleBrake_running set rfl (by
      rw [Ctx.closeWatch_eq]; exact Ctx.brakeEnd_running rfl room (number ▸ some'))] at braking
    rw [stop (by simp [run, AxisState.refusesStop]) (.inr ⟨brakes, rfl⟩), braking, set, number, Ctx.closeWatch_eq]
    rfl
  · have set := State.axis_setAxis_self s a { s.axis a with
      st := .stopping, ctx := some c.closeWatch, owedFlush := flags.getLsbD 0 }
    have stepping : (s.axis a).stepping = true := (Axis.stepping_of_ctx active).mpr ⟨by rcases st with e | e <;> simp [e], steps⟩
    have braking := State.stopBrake_of_stepping active stepping (by rcases st with e | e <;> simp [e]) (flags.getLsbD 0)
    rw [if_pos (by simp [braked]), State.settleBrake_running set rfl (by
      rw [Ctx.closeWatch_eq]; exact Ctx.brakeEnd_running braked room going)] at braking
    rw [stop (by rcases st with e | e <;> simp [e, AxisState.refusesStop]) (.inr ⟨brakes, rfl⟩), braking, set, Ctx.closeWatch_eq]
    rfl
  · have same : s.stopBrake a (flags.getLsbD 0) = s := by simp only [State.stopBrake, if_pos stopping]
    rw [stop (by simp [stopping, AxisState.refusesStop]) (.inr ⟨brakes, same.symm⟩), stopping]
    rfl
  · have change := State.changesTo_reachReady_idle idle (flags.getLsbD 0)
    have same : s.stopReady a (flags.getLsbD 0) = (s.setAxis a { s.axis a with owedFlush := flags.getLsbD 0 }).reachReady a := by
      rw [State.stopReady, State.withdraw_of_ne (by rcases st with e | e <;> simp [e])]
    have still : (s.axis a).stepping = false := by simp [Axis.stepping, idle]
    have moving : (s.axis a).st ≠ .stopping := by rcases st with e | e <;> simp [e]
    rw [← same] at change
    have ready := stopped (by rcases st with e | e <;> simp [e, AxisState.refusesStop]) modes still moving (congrArg Axis.st change.axis)
    have motion := change.touches.1
    obtain ⟨axis, others, pool, groups, reports, -⟩ := change
    generalize s.stopReady a (flags.getLsbD 0) = u at ready motion axis others pool groups reports
    refine ⟨_, ready, axis, others, pool.trans ?_, groups, motion.answered_silent reports f rest [0, 1]⟩
    cases flags.getLsbD 0 <;> rfl
  · have still : (s.axis a).stepping = false := by simp [Axis.stepping, idle]
    obtain ⟨motion, axis, others, pool, group, groups, reports⟩ := State.stopReady_gate gate idle head (flags.getLsbD 0)
    have ready := stopped (by simp [gate, AxisState.refusesStop]) modes still (by simp [gate]) (congrArg Axis.st axis)
    generalize s.stopReady a (flags.getLsbD 0) = u at ready motion axis others pool group groups reports
    exact ⟨_, ready, axis, others, pool, group, groups, motion.answered_silent reports f rest [0, 1]⟩
  · have key : ∃ t, s.changesTo a { s.axis a with
          st := .ready, rate := 0, ena := true, ctx := none, owedFlush := false
          queue := if (flags.getLsbD 0 || (decide ((s.axis a).st = .stopping) && (s.axis a).owedFlush)) then [] else q }
        (.segmentAborted a c.seg.tag .stopped c.stepsDone :: (s.axis a).lowAfterOne a)
        (if (flags.getLsbD 0 || (decide ((s.axis a).st = .stopping) && (s.axis a).owedFlush)) then (s.axis a).queue else [c.seg]) t
        ∧ exec .stopAxis s = .next (t.answered f rest [0, (t.axis a).st.code]) := by
      rcases modes with ⟨halt, st⟩ | ⟨brakes, st⟩
      · refine ⟨_, State.changesTo_stopReady gate active queue _, stop ?_ (.inl ⟨halt, State.stopHalt_eq _ |>.symm⟩)⟩
        simp only [List.mem_cons, List.not_mem_nil, or_false] at st
        rcases st with e | e | e | e <;> simp [e, AxisState.refusesStop]
      · obtain ⟨taken, moving, t, brakes', change⟩ := State.stopBrake_ended active queue st (flags.getLsbD 0)
        rw [decide_eq_false moving, Bool.false_and, Bool.or_false]
        exact ⟨t, change, stop taken (.inr ⟨brakes, brakes'⟩)⟩
    obtain ⟨t, change, outcome⟩ := key
    have motion := change.touches.1
    rw [change.axis] at outcome
    obtain ⟨axis, others, pool, groups, reports, -⟩ := change
    refine ⟨_, outcome, reports, others, fun unflushed => ?_, fun flushed => ?_, motion.answered f rest _⟩
    · rw [if_neg (Bool.eq_false_iff.mp unflushed)] at pool groups axis
      exact ⟨axis, pool, groups⟩
    · rw [if_pos flushed] at pool groups axis
      exact ⟨axis, pool, groups⟩

end Sys2Proof.Machine

/-!
PROOF. A STEP pulse that is over, and a DWELL whose time has run out (spec 10 R170, R171; 02 R39, R43).
-/

namespace Sys2Proof.Machine

section PulseAndDwell
variable {s : State} {a : AxisId} {c : Ctx} {x : Axis} {q : List Segment}

/-- A completion in RUN at standstill, and the head behind it begun (R39, R43, R74). -/
theorem State.completeAtRest_course (axis : s.axis a = x) (active : x.ctx = some c) (queue : x.queue = c.seg :: q) (run : x.st = .run)
    (out : ∀ g, inSet (s.group g).arrived a = false) :
    ∃ u, s.changesTo a { x with rate := 0, ctx := none, queue := q } ((completionReport? a x c).toList ++ x.lowAfterOne a) [c.seg] u
      ∧ (q = [] → settleAll (s.completeAtRest a) = u) ∧ ∀ t, u.begins a none t → settleAll (s.completeAtRest a) = t := by
  have change := State.changesTo_completeAtRest_of_some axis active queue
  refine ⟨_, change, fun empty => ?_, fun t begins => begins.settle_eq⟩
  exact change.settle_begin_still rfl run rfl out empty none

theorem State.passToMicros_now (s : State) : s.passToMicros (s.micros + 0) = s :=
  s.passTo_of_le (Nat.div_mul_le_self s.clock 4)

theorem execDwellExpiry_now (run : (s.axis a).st = .run) (active : (s.axis a).ctx = some c) (phase : c.phase = .timing)
    (left : c.dwellLeft = 0) : exec (.dwellExpiry a) s = .next (settleAll (s.completeAtRest a)) := by
  have running : (s.axis a).dwellRunning = some 0 := (Axis.dwellRunning_iff _ _).mpr ⟨c, active, run, phase, left⟩
  refine congrArg Host.Outcome.next ?_
  rw [running]
  exact congrArg (fun u => settleAll (State.completeAtRest u a)) s.passToMicros_now

theorem StepOutput.endPulse_of_none {o : StepOutput} (still : o.turnTo = none) : o.endPulse = { o with high := false } := by
  obtain ⟨high, pulseEnd, nextPulse, dirShown, dirChangedAt, turnTo⟩ := o
  subst still
  rfl

theorem StepOutput.endPulse_of_some {o : StepOutput} {d : Dir} (turns : o.turnTo = some d) : o.endPulse = { o with
    high := false, dirShown := d, dirChangedAt := o.pulseEnd, turnTo := none } := by
  obtain ⟨high, pulseEnd, nextPulse, dirShown, dirChangedAt, turnTo⟩ := o
  subst turns
  rfl

theorem execStepPulseEnd_now (high : (s.axis a).output.high = true) (over' : (s.axis a).output.pulseEnd ≤ s.clock) :
    exec (.stepPulseEnd a) s = .next (s.setAxis a (s.axis a).endPulse) := by
  refine congrArg Host.Outcome.next ((if_pos high).trans ?_)
  rw [s.passTo_of_le over']
  rfl

end PulseAndDwell

/-- Settles O50. -/
theorem pulseAndDwellEnd : Obligations.PulseAndDwellEnd := by
  refine ⟨fun x => rfl, ?_, ?_⟩
  · rintro s a x rfl high over'
    rw [execStepPulseEnd_now high over']
    refine ⟨fun still => ?_, fun d turns => ?_⟩
    · rw [Axis.endPulse, StepOutput.endPulse_of_none still]
    · rw [Axis.endPulse, StepOutput.endPulse_of_some turns]
  · rintro s a x c d r q rfl run active phase left queue body out
    obtain ⟨u, change, empty, begins⟩ := State.completeAtRest_course rfl active queue run out
    rw [execDwellExpiry_now run active phase left]
    rw [completionReport?_dwell a _ body] at change
    exact ⟨u, change, fun e => congrArg Host.Outcome.next (empty e), fun t h => congrArg Host.Outcome.next (begins t h)⟩

end Sys2Proof.Machine

/-!
PROOF. The commands by which a step comes, and a step that is issued (spec 02 R34, R36, R37; 03 R53, R54, R61, R62; 10 R170).
-/

namespace Sys2Proof.Machine

section StepDue
variable {s : State} {a : AxisId} {c : Ctx} {x : Axis} {i : Instr}

/-- STEP_DUE of an axis that has a step to come. -/
theorem execStepDue_eq (axis : s.axis a = x) (active : x.ctx = some c)
    (st : x.st ∈ ([.run, .holding, .stopping, .faultBrake] : List AxisState)) (next : c.hasNextStep = true) (undelayed : c.delayed = none) :
    exec (.stepDue a) s = .next ((s.passTo (c.nextDue x.settings)).settle [.stepNow a]) := by
  subst axis
  have stepping : (s.axis a).stepping = true := (Axis.stepping_of_ctx active).mpr ⟨st, Ctx.makesSteps_of_hasNextStep next⟩
  have due : (s.axis a).stepDueAt = some (c.nextDue (s.axis a).settings) := by
    simp only [Axis.stepDueAt, active, stepping, next, undelayed]
    rfl
  refine congrArg Host.Outcome.next ?_
  rw [due]

/-- STEP_DUE of a step that is due. -/
theorem execStepDue_now (axis : s.axis a = x) (active : x.ctx = some c)
    (st : x.st ∈ ([.run, .holding, .stopping, .faultBrake] : List AxisState)) (next : c.hasNextStep = true) (undelayed : c.delayed = none)
    (due : c.nextDue x.settings ≤ s.clock) : exec (.stepDue a) s = .next (settleAll (s.stepFallsDue a)) := by
  rw [execStepDue_eq axis active st next undelayed, s.passTo_of_le due, State.settle_single]
  rfl

/-- DELAYED_STEP_ISSUE of an axis with a delayed step. -/
theorem execDelayedStepIssue_eq {d : Nat} (axis : s.axis a = x) (active : x.ctx = some c)
    (st : x.st ∈ ([.run, .holding, .stopping, .faultBrake] : List AxisState)) (steps : c.seg.body.makesSteps = true)
    (delayed : c.delayed = some d) :
    exec (.delayedStepIssue a) s = .next (settleAll (((s.passTo d).modAxis a (Axis.endPulseIfOver (s.passTo d).clock)).attemptStep a)) := by
  subst axis
  have stepping : (s.axis a).stepping = true := (Axis.stepping_of_ctx active).mpr ⟨st, steps⟩
  have wait : (s.axis a).ctx.bind (·.delayed) = some d := by rw [active]; exact delayed
  refine congrArg Host.Outcome.next ?_
  rw [wait]
  exact if_pos stepping

/-- By either command, a step that comes with STEP low comes to its limit check. -/
theorem exec_stepComes (axis : s.axis a = x) (active : x.ctx = some c)
    (st : x.st ∈ ([.run, .holding, .stopping, .faultBrake] : List AxisState)) (next : c.hasNextStep = true)
    (low : x.output.high = false) (comes : x.stepComes a c s.clock i) : exec i s = .next (settleAll (s.attemptStep a)) := by
  rcases comes with ⟨rfl, undelayed, due, free⟩ | ⟨rfl, d, delayed, passed⟩
  · subst axis
    have stepping : (s.axis a).stepping = true := (Axis.stepping_of_ctx active).mpr ⟨st, Ctx.makesSteps_of_hasNextStep next⟩
    rw [execStepDue_now rfl active st next undelayed due, State.stepFallsDue_free active stepping next undelayed free]
  · have still : s.modAxis a (Axis.endPulseIfOver s.clock) = s := by
      rw [State.modAxis_eq, axis, Axis.endPulseIfOver_of_not (Axis.going_of_low low), ← axis, State.setAxis_axis]
    rw [execDelayedStepIssue_eq axis active st (Ctx.makesSteps_of_hasNextStep next) delayed, s.passTo_of_le passed, still]

/-- By either command, a step that the limit check lets pass is issued. -/
theorem exec_stepIssued {w y : Axis} (axis : s.axis a = x) (active : x.ctx = some c)
    (st : x.st ∈ ([.run, .holding, .stopping, .faultBrake] : List AxisState)) (next : c.hasNextStep = true)
    (low : x.output.high = false) (comes : x.stepComes a c s.clock i) (passes : x.limitPasses c.seg.body.dir w)
    (step : y = w.stepped s.clock (c.nextRate x.settings) c.seg.body.dir (c.afterStep s.clock)) :
    exec i s = .next (settleAll (s.stepTo a y)) := by
  rw [exec_stepComes axis active st next low comes]
  subst axis
  rw [State.attemptStep_of_passes active passes (Axis.going_of_low low), step]

/-! ## When a step falls due -/

theorem Ctx.nextDue_at_once {set : AxisSettings} (first : c.lastStep = none ∨ c.phase = .ramp ∧ c.rampSteps = 0) : c.nextDue set = 0 := by
  unfold Ctx.nextDue
  rcases first with e | ⟨ramp, none⟩
  · rw [e]
  · cases c.lastStep with
    | none => rfl
    | some t => exact if_pos (by simp [ramp, none])

theorem Ctx.nextDue_after {set : AxisSettings} {t : Nat} (last : c.lastStep = some t) (later : c.phase ≠ .ramp ∨ c.rampSteps ≠ 0) :
    c.nextDue set = t + 4 * (1000000 / c.nextRate set) := by
  have ramps : ¬(decide (c.phase = .ramp) && decide (c.rampSteps = 0)) = true := by
    simp only [Bool.and_eq_true, decide_eq_true_eq, not_and]
    exact fun ramp => later.resolve_left fun e => e ramp
  rw [Ctx.nextDue, last]
  exact if_neg ramps

theorem Ctx.hasNextStep_moving (phase : c.phase = .stepping ∨ c.phase = .ramp) :
    c.hasNextStep = true ↔ c.seg.body.makesSteps = true ∧ c.stepsDone < c.seg.body.total := by
  rcases phase with e | e <;> simp [Ctx.hasNextStep, e]

theorem Ctx.hasNextStep_braking {b : Brake} (phase : c.phase = .brake ∨ c.phase = .settle) (brake : c.brake = some b) :
    c.hasNextStep = true ↔ c.seg.body.makesSteps = true ∧ c.stepsDone < c.seg.body.total ∧ b.issued < b.count := by
  rcases phase with e | e <;> simp [Ctx.hasNextStep, e, brake, and_assoc]

theorem Ctx.hasNextStep_still (phase : c.phase = .timing ∨ c.phase = .paused) : c.hasNextStep = false := by
  rcases phase with e | e <;> simp [Ctx.hasNextStep, e]

/-- The wait for a step changes nothing of its axis. -/
theorem State.axis_passTo_stepping {d : Nat} (axis : s.axis a = x) (active : x.ctx = some c) (next : c.hasNextStep = true) (later : s.clock < d) :
    (s.passTo d).axis a = x := by
  have phase : ¬c.phase = .timing := fun e => by simp [Ctx.hasNextStep_still (.inl e)] at next
  rw [State.axis_passTo_eq (Nat.le_of_lt later), axis, Axis.spend_eq]
  simp only [active, Option.map_some, if_neg phase]
  rw [← active]

theorem State.passTo_passTo {d : Nat} (later : s.clock < d) : (s.passTo d).passTo d = s.passTo d :=
  State.passTo_of_le _ (by rw [State.passTo_frame (Nat.le_of_lt later)])

/-- A step commanded before its time waits for it. -/
theorem execStepDue_early (axis : s.axis a = x) (active : x.ctx = some c)
    (st : x.st ∈ ([.run, .holding, .stopping, .faultBrake] : List AxisState)) (next : c.hasNextStep = true) (undelayed : c.delayed = none)
    (early : s.clock < c.nextDue x.settings) : exec (.stepDue a) s = exec (.stepDue a) (s.passTo (c.nextDue x.settings)) := by
  rw [execStepDue_eq axis active st next undelayed,
    execStepDue_eq (State.axis_passTo_stepping axis active next early) active st next undelayed, State.passTo_passTo early]

theorem execDelayedStepIssue_early {d : Nat} (axis : s.axis a = x) (active : x.ctx = some c)
    (st : x.st ∈ ([.run, .holding, .stopping, .faultBrake] : List AxisState)) (next : c.hasNextStep = true) (delayed : c.delayed = some d)
    (early : s.clock < d) : exec (.delayedStepIssue a) s = exec (.delayedStepIssue a) (s.passTo d) := by
  have steps := Ctx.makesSteps_of_hasNextStep next
  rw [execDelayedStepIssue_eq axis active st steps delayed,
    execDelayedStepIssue_eq (State.axis_passTo_stepping axis active next early) active st steps delayed, State.passTo_passTo early]

/-! ## A step that ends nothing -/

theorem Ctx.brakeEnd_of_none (none : c.brake = none) : c.brakeEnd = .running := by rw [Ctx.brakeEnd, none]

/-- A step that leaves steps of its segment, and of its brake if one runs, has no further effect. -/
theorem State.stepTo_of_going {y : Axis} (within : y.followExceeded = false) (active : y.ctx = some c)
    (room : c.stepsDone < c.seg.body.total) (going : c.brakeEnd = .running) : s.stepTo a y = (s.setAxis a y, []) := by
  by_cases run : y.st = .run
  · by_cases settle : c.phase = .settle
    · exact State.stepTo_of_settling within active run settle going
    · exact State.stepTo_of_more within active run settle room
  · rw [State.stepTo_of_not_run within active run, State.settleBrake_running (s.axis_setAxis_self a y) active going]

/-- The brake, if one runs, after a step. -/
theorem Ctx.brake_afterStep {b : Brake} (phase : c.phase = .brake ∨ c.phase = .settle) (brake : c.brake = some b) (now : Nat) :
    (c.afterStep now).brake = some { b with issued := b.issued + 1 } := by
  rw [Ctx.afterStep_eq, if_pos phase, brake]
  rfl

theorem Ctx.brake_afterStep_of_moving (phase : c.phase = .stepping ∨ c.phase = .ramp) (now : Nat) :
    (c.afterStep now).brake = c.brake := by
  have kept : ¬(c.phase = .brake ∨ c.phase = .settle) := by rcases phase with e | e <;> simp [e]
  rw [Ctx.afterStep_eq, if_neg kept]

end StepDue

/-- Settles O46. -/
theorem stepIsIssued : Obligations.StepIsIssued := by
  refine ⟨fun n S E r => ⟨?_, rfl, rfl⟩, fun d rate max src e => ⟨rfl, rfl, rfl⟩, fun d r => rfl, rfl, fun c set => ?_, ?_, ?_⟩
  · rfl
  · exact ⟨Ctx.nextDue_at_once, fun t => Ctx.nextDue_after, Ctx.hasNextStep_moving, Ctx.hasNextStep_still⟩
  · rintro s a x c rfl active st next
    exact ⟨execStepDue_early rfl active st next, fun d => execDelayedStepIssue_early rfl active st next⟩
  · rintro s a x y c i rfl active st steps room phase moving clear low comes step within
    have left : c.stepsDone < c.seg.body.total := by omega
    rw [← Ctx.afterStep_eq] at step
    have course : c.hasNextStep = true ∧ (c.afterStep s.clock).brakeEnd = .running := by
      have braked (p : c.phase = .brake ∨ c.phase = .settle) (h : ∃ b, c.brake = some b ∧ b.issued + 1 < b.count) :
          c.hasNextStep = true ∧ (c.afterStep s.clock).brakeEnd = .running := by
        obtain ⟨b, brake, more⟩ := h
        exact ⟨(Ctx.hasNextStep_braking p brake).mpr ⟨steps, left, by omega⟩,
          Ctx.brakeEnd_running (Ctx.brake_afterStep p brake s.clock) room more⟩
      have runs (p : c.phase = .stepping ∨ c.phase = .ramp) : c.hasNextStep = true ∧ (c.afterStep s.clock).brakeEnd = .running :=
        ⟨(Ctx.hasNextStep_moving p).mpr ⟨steps, left⟩,
          Ctx.brakeEnd_of_none ((Ctx.brake_afterStep_of_moving p s.clock).trans (moving p).2)⟩
      rcases phase with p | p | ⟨p, h⟩
      · exact runs (.inl p)
      · exact runs (.inr p)
      · exact braked p h
    rw [exec_stepIssued rfl active st course.1 low comes (.inl ⟨clear, rfl⟩) step,
      State.stepTo_of_going within (by rw [step]; rfl) room course.2, settleAll_nil]

end Sys2Proof.Machine

/-!
PROOF. A step that is withheld at a limit, and one that waits for DIR or for the pulse spacing (spec 02 R34, R35; 07 R118, R122, R127;
10 R170, R171).
-/

namespace Sys2Proof.Machine

section WithheldSteps
variable {s : State} {a : AxisId} {c : Ctx} {x y : Axis} {i : Instr} {cause : Cause}

/-! ## Withheld -/

/-- A limit cause that makes FAULT of a stepping axis at once (R122). -/
theorem State.changesTo_limit_halt {q : List Segment} (axis : s.axis a = x) (active : x.ctx = some c)
    (st : x.st ∈ ([.run, .holding, .stopping] : List AxisState)) (queue : x.queue = c.seg :: q) (policy : x.protection.policy cause = .halt) :
    s.changesTo a { x with
        st := .fault, ena := false, rate := 0, owedFlush := false, ctx := none, queue := q
        faultRecord := some ⟨cause, 0, s.deviceTime, x.position, x.encoder.position, x.fe, some c.seg.tag, x.st⟩ }
      ([.faultRaised a cause x.position x.encoder.position x.fe (some c.seg.tag), .segmentAborted a c.seg.tag .fault c.stepsDone]
        ++ x.lowAfterOne a) [c.seg] (s.raiseCause a cause) := by
  subst axis
  have fault := State.changesTo_raiseCause_fault (s := s) (a := a) (cause := cause)
    (by simp only [List.mem_cons, List.not_mem_nil, or_false] at st ⊢; rcases st with e | e | e <;> simp [e]) (.inl policy)
  rw [State.faulted_recorded_of_some active queue, State.raised_of_some active, Axis.abortion_of_some a .fault active,
    Axis.leaving_of_queue active queue, Axis.faultEna, if_pos policy] at fault
  exact fault

/-- A later cause under HALT cuts the fault brake (R127). -/
theorem State.changesTo_cut {q : List Segment} {r : FaultRecord} (axis : s.axis a = x) (active : x.ctx = some c)
    (st : x.st = .faultBrake) (queue : x.queue = c.seg :: q) (record : x.faultRecord = some r) (policy : x.protection.policy cause = .halt) :
    s.changesTo a { x with
        st := .fault, ena := false, rate := 0, owedFlush := false, ctx := none, queue := q
        faultRecord := some { r with additional := r.additional ||| (1#8 <<< (cause.code - 1)) } }
      (.segmentAborted a c.seg.tag .fault c.stepsDone :: x.lowAfterOne a) [c.seg] (s.laterCause a cause) := by
  subst axis
  have cut := State.changesTo_laterCause_cut (s := s) (a := a) st policy
  rw [Axis.abortion_of_some a .fault active, Axis.leaving_of_queue active queue] at cut
  refine cut.of_eq ?_ rfl rfl
  rw [Axis.faulted, Axis.departed_of_some (c := c) (by exact active)]
  simp only [queue, List.tail_cons, record]
  rfl

/-! ## Delayed -/

/-- A step that falls due and has to wait (R35, R170, R171). -/
theorem execStepDue_delayed {due : Nat} (axis : s.axis a = x) (active : x.ctx = some c)
    (st : x.st ∈ ([.run, .holding, .stopping, .faultBrake] : List AxisState)) (next : c.hasNextStep = true) (undelayed : c.delayed = none)
    (falls : c.nextDue x.settings ≤ s.clock) (going : ¬(x.output.high = true ∧ x.output.pulseEnd ≤ s.clock))
    (turns : x.turnsFor s.clock c.seg.body.dir y due) (wait : s.clock < due) :
    exec (.stepDue a) s = .next (s.setAxis a { y with ctx := some { c with delayed := some due } }) := by
  have stepping : x.stepping = true := (Axis.stepping_of_ctx active).mpr ⟨st, Ctx.makesSteps_of_hasNextStep next⟩
  have stands : (s.axis a).pulseOver s.clock = x := by rw [axis, Axis.pulseOver, if_neg going]
  rw [execStepDue_now axis active st next undelayed falls, State.stepFallsDue_turned stands active stepping next undelayed turns,
    if_neg (Nat.not_le.mpr wait), settleAll_nil]

end WithheldSteps

/-- Settles O47. -/
theorem stepsAreWithheldOrDelayed : Obligations.StepsAreWithheldOrDelayed := by
  refine ⟨?_, ?_, ?_, ?_⟩
  · rintro s a x c cause i rfl active steps next low comes limit e
    have named : cause = (limitOf c.seg.body.dir).2 := e.trans (limitOf_cause _).symm
    have policy : (s.axis a).protection.policy cause = (s.axis a).protection.limitPolicy := by
      rw [named]
      cases c.seg.body.dir <;> rfl
    have set := State.axis_setAxis_self s a { s.axis a with ctx := some { c with delayed := none } }
    have withheld (st : (s.axis a).st ∈ ([.run, .holding, .stopping] : List AxisState)) :
        exec i s = .next ((s.setAxis a { s.axis a with ctx := some { c with delayed := none } }).raiseCause a cause) := by
      simp only [List.mem_cons, List.not_mem_nil, or_false] at st
      rw [exec_stepComes rfl active (by rcases st with e | e | e <;> simp [e]) next low comes,
        State.attemptStep_of_limit active limit (by rcases st with e | e | e <;> simp [e]), settleAll_nil, named]
    refine ⟨withheld, fun q st queue halt => ?_, fun r q st record queue halt => ?_, fun r b y st record phase brake more room policy' step within => ?_⟩
    · have fault := State.changesTo_limit_halt (c := { c with delayed := none }) (q := q) (cause := cause) set rfl st queue
        (policy.trans halt)
      obtain ⟨axis, others, pool, groups, reports, rest⟩ := fault.of_setAxis
      exact ⟨_, withheld st, axis, reports, others, pool, groups, rest⟩
    · have cut := State.changesTo_cut (c := { c with delayed := none }) (q := q) (cause := cause) set rfl st queue record
        (policy.trans halt)
      have outcome : exec i s = .next ((s.setAxis a { s.axis a with ctx := some { c with delayed := none } }).laterCause a cause) := by
        rw [exec_stepComes rfl active (by simp [st]) next low comes, State.attemptStep_of_cut active limit st halt, settleAll_nil, named]
      obtain ⟨axis, others, pool, groups, reports, rest⟩ := cut.of_setAxis
      exact ⟨_, outcome, axis, reports, others, pool, groups, rest⟩
    · have bit : (1#8 <<< (cause.code - 1)) = if c.seg.body.dir = .positive then 1#8 else 2#8 := by
        rw [named]
        cases c.seg.body.dir <;> rfl
      rw [bit] at step
      have after : c.afterStep s.clock = { c with
          stepsDone := c.stepsDone + 1, lastStep := some s.clock, delayed := none, brake := some { b with issued := b.issued + 1 } } := by
        have kept : ¬c.phase = .ramp := by rcases phase with e | e <;> simp [e]
        rw [Ctx.afterStep_eq, if_pos phase, if_neg kept, brake]
        rfl
      rw [exec_stepIssued rfl active (by simp [st]) next low comes (.inr ⟨limit, st, policy', r, record, rfl⟩) (y := y) (by rw [after]; exact step),
        State.stepTo_of_going within (by rw [step]; rfl) room (Ctx.brakeEnd_running rfl room more), settleAll_nil]
  · rintro s a x c lead rfl active st steps next undelayed falls shown going led wait
    have going' : ¬((s.axis a).output.high = true ∧ (s.axis a).output.pulseEnd ≤ s.clock) := fun ⟨high, over'⟩ =>
      absurd (going high) (Nat.not_lt.mpr over')
    refine execStepDue_delayed rfl active st next undelayed falls going' (.inl ⟨shown, rfl, ?_⟩) wait
    rcases led with ⟨last, rfl⟩ | ⟨last, rfl⟩
    · rw [if_pos last]
      omega
    · rw [if_neg last]
      omega
  · rintro s a x c rfl active st steps next undelayed falls shown low lead
    refine execStepDue_delayed rfl active st next undelayed falls (Axis.going_of_low low) (.inr (.inl ⟨shown, low, rfl, ?_⟩)) ?_ <;> omega
  · rintro s a x c rfl active st steps next undelayed falls shown high going
    refine execStepDue_delayed rfl active st next undelayed falls (fun h => absurd going (Nat.not_lt.mpr h.2))
      (.inr (.inr ⟨shown, high, rfl, ?_⟩)) ?_ <;> omega

end Sys2Proof.Machine

/-!
PROOF. The last step of a segment and of a brake (spec 02 R38, R39, R41; 03 R55, R56, R59, R65; 04 R74 to R76; 07 R125).
-/

namespace Sys2Proof.Machine

section LastStep
variable {s : State} {a : AxisId} {c k : Ctx} {x y : Axis} {q : List Segment}

theorem Axis.followExceeded_ctx (x : Axis) (k : Ctx) : Axis.followExceeded { x with ctx := some k } = x.followExceeded := rfl

end LastStep

/-- Settles O48. -/
theorem lastStepEndsTheSegment : Obligations.LastStepEndsTheSegment := by
  refine ⟨?_, ?_⟩
  · rintro s a x y z c n S E r q i done rfl active run queue body phase unbraked last clear low comes out step within place bodies
    have steps : c.seg.body.makesSteps = true := by rw [body]; rfl
    have total : c.seg.body.total = n.natAbs := by rw [body]; rfl
    have next : c.hasNextStep = true := (Ctx.hasNextStep_moving phase).mpr ⟨steps, by omega⟩
    have moves : (c.afterStep s.clock).phase ≠ .settle := by
      show c.phase ≠ .settle
      rcases phase with e | e <;> simp [e]
    have issued := exec_stepIssued rfl active (by simp [run]) next low comes (.inl ⟨clear, rfl⟩) (y := { y with
      ctx := some (c.afterStep s.clock) }) (by rw [step]; rfl)
    obtain ⟨change, tasks⟩ := State.stepTo_of_move (s := s) (a := a) (y := { y with ctx := some (c.afterStep s.clock) }) (q := q)
      ((Axis.followExceeded_ctx y _).trans within) rfl (by rw [step]; exact run) moves (total.trans last.symm).le body (by rw [step]; exact queue)
    have change := change.of_eq (z := z) (q := done) (by rw [place]) (by rw [bodies, step]; rfl) rfl
    have course : settleAll (s.stepTo a { y with ctx := some (c.afterStep s.clock) })
        = (s.stepTo a { y with ctx := some (c.afterStep s.clock) }).1.settle [.beginHead a (some s.clock)] :=
      congrArg (State.settle _) tasks
    rw [issued, course]
    refine ⟨_, change, fun empty => ?_, fun t begins => by rw [begins.settle_eq]⟩
    rw [change.settle_begin (by rw [place]) (by rw [place, step]; exact run) out (by rw [place]; exact empty)]
  · rintro s a x y c d rate max src e q i rfl active run queue body phase watch unbraked last clear low comes step within
    have steps : c.seg.body.makesSteps = true := by rw [body]; rfl
    have total : c.seg.body.total = max := by rw [body]; rfl
    have dir : c.seg.body.dir = d := by rw [body]; rfl
    subst dir
    have next : c.hasNextStep = true := (Ctx.hasNextStep_moving phase).mpr ⟨steps, by omega⟩
    have moves : (c.afterStep s.clock).phase ≠ .settle := by
      show c.phase ≠ .settle
      rcases phase with e | e <;> simp [e]
    have issued := exec_stepIssued rfl active (by simp [run]) next low comes (.inl ⟨clear, rfl⟩) (y := { y with
      ctx := some (c.afterStep s.clock) }) (by rw [step]; rfl)
    obtain ⟨change, tasks⟩ := State.stepTo_of_seek (s := s) (a := a) (y := { y with ctx := some (c.afterStep s.clock) }) (q := q)
      ((Axis.followExceeded_ctx y _).trans within) rfl (by rw [step]; exact run) moves (total.trans last.symm).le
      (by show c.seg.body.isSeek = true; rw [body]; rfl) (by show c.watch ≠ _; simp [watch]) (by rw [step]; exact queue)
    have change := change.of_eq (z := { y with st := .held, rate := 0, ctx := none, queue := q })
      (q := .seekResult a c.seg.tag false max none none :: (s.axis a).lowAfterOne a) rfl (by rw [← last, step]; rfl) rfl
    refine ⟨_, change, ?_⟩
    rw [issued]
    exact congrArg Host.Outcome.next ((congrArg (State.settle _) tasks).trans (State.settle_nil _))

end Sys2Proof.Machine

/-!
PROOF. The last step of a brake (spec 03 R55, R56, R59, R65, R66; 04 R74, R76; 07 R118, R125, R127).
-/

namespace Sys2Proof.Machine

section BrakeSettled
variable {s : State} {a : AxisId} {c : Ctx} {y : Axis} {q : List Segment}

/-- A settle in RUN that is over (R74). -/
theorem State.stepTo_of_settled (within : y.followExceeded = false) (active : y.ctx = some c) (run : y.st = .run)
    (phase : c.phase = .settle) (ended : c.brakeEnd ≠ .running) : s.stepTo a y = (s.setAxis a y).completeAtRest a := by
  rw [State.stepTo_of_within within, State.stepEffects_of_settled (s.axis_setAxis_self a y) active run phase ended]

/-- A brake step counted. -/
theorem Ctx.afterStep_of_braking {b : Brake} (phase : c.phase = .brake ∨ c.phase = .settle) (brake : c.brake = some b) (now : Nat) :
    c.afterStep now = { c with
      stepsDone := c.stepsDone + 1, lastStep := some now, delayed := none, brake := some { b with issued := b.issued + 1 } } := by
  have kept : ¬c.phase = .ramp := by rcases phase with e | e <;> simp [e]
  rw [Ctx.afterStep_eq, if_pos phase, if_neg kept, brake]
  rfl

/-! ## The axis when its brake is over, whatever ended it -/

variable (active : y.ctx = some c) (queue : y.queue = c.seg :: q)
include active queue

/-- What leaves a held axis: the segment of a settle, or an exhausted one (R56, R59, R74). -/
theorem State.changesTo_brakeHeld (st : y.st = .holding)
    (ended : c.brakeEnd = .exhausted ∨ c.brakeEnd = .completed ∧ c.phase = .settle) :
    s.changesTo a { y with st := .held, rate := 0, ctx := none, queue := q } ((completionReport? a y c).toList ++ y.lowAfterOne a) [c.seg]
      ((s.setAxis a y).settleBrake a) := by
  have set := s.axis_setAxis_self a y
  have held : (s.setAxis a y).changesTo a { y.departed with st := .held, rate := 0 } (y.completion a) y.leaving
      ((s.setAxis a y).settleBrake a) := by
    rcases ended with all | ⟨last, settle⟩
    · exact State.changesTo_settleBrake_holding_exhausted set active st all
    · rw [State.settleBrake_holding_completed set active st last]
      exact State.changesTo_holdBrakeDone_of_settle set settle
  rw [Axis.completion_of_some a active, Axis.leaving_of_queue active queue, Axis.departed_of_some active, queue, List.tail_cons] at held
  exact held.of_setAxis

/-- READY after a stop brake, with the reports that it leaves (R56, R65). -/
theorem State.changesTo_brakeReady {bodies : List ReportBody} (st : y.st = .stopping)
    (ended : c.brakeEnd = .exhausted ∧ bodies = (completionReport? a y c).toList
      ∨ c.brakeEnd = .completed ∧ bodies = [.segmentAborted a c.seg.tag .stopped c.stepsDone]) :
    s.changesTo a { y with
        st := .ready, rate := 0, ena := true, ctx := none, owedFlush := false, queue := if y.owedFlush then [] else q }
      (bodies ++ y.lowAfterOne a) (if y.owedFlush then y.queue else [c.seg]) ((s.setAxis a y).settleBrake a) := by
  have set := s.axis_setAxis_self a y
  have ready : (s.setAxis a y).changesTo a y.readied (bodies ++ y.lowAfterOne a) y.flushed ((s.setAxis a y).settleBrake a) := by
    rcases ended with ⟨all, rfl⟩ | ⟨last, rfl⟩
    · have done := State.changesTo_settleBrake_stopping_exhausted set active st all
      rwa [Axis.completion_of_some a active] at done
    · have done := State.changesTo_settleBrake_stopping_completed set active st last
      rwa [Axis.abortion_of_some a .stopped active] at done
  rw [Axis.readied_of_some active queue, Axis.flushed_of_some active queue] at ready
  exact ready.of_setAxis

/-- FAULT after a fault brake, with the reports that it leaves (R56, R125). -/
theorem State.changesTo_brakeFault {bodies : List ReportBody} (st : y.st = .faultBrake)
    (ended : c.brakeEnd = .exhausted ∧ bodies = (completionReport? a y c).toList
      ∨ c.brakeEnd = .completed ∧ bodies = [.segmentAborted a c.seg.tag .fault c.stepsDone]) :
    s.changesTo a { y with st := .fault, rate := 0, ena := y.enaAfterBrake, ctx := none, owedFlush := false, queue := q }
      (bodies ++ y.lowAfterOne a) [c.seg] ((s.setAxis a y).settleBrake a) := by
  have set := s.axis_setAxis_self a y
  have fault : (s.setAxis a y).changesTo a (y.faulted y.enaAfterBrake) (bodies ++ y.lowAfterOne a) y.leaving
      ((s.setAxis a y).settleBrake a) := by
    rcases ended with ⟨all, rfl⟩ | ⟨last, rfl⟩
    · have done := State.changesTo_settleBrake_faultBrake_exhausted set active st all
      rwa [Axis.completion_of_some a active] at done
    · have done := State.changesTo_settleBrake_faultBrake_completed set active st last
      rwa [Axis.abortion_of_some a .fault active] at done
  rw [Axis.leaving_of_queue active queue, Axis.faulted, Axis.departed_of_some active, queue, List.tail_cons] at fault
  exact fault.of_setAxis

end BrakeSettled

/-- Settles O49. -/
theorem lastBrakeStepEndsTheBrake : Obligations.LastBrakeStepEndsTheBrake := by
  rintro s a x w y c b q i last exhausted done rfl active queue steps phase brake going room passes low comes step within all final bodies
  obtain ⟨frame, same⟩ := passes.frame
  obtain ⟨r, e⟩ : ∃ r, w = { s.axis a with faultRecord := r } := ⟨_, frame⟩
  have after := Ctx.afterStep_of_braking phase brake s.clock
  have issued (st : (s.axis a).st ∈ ([.run, .holding, .stopping, .faultBrake] : List AxisState)) :=
    exec_stepIssued rfl active st ((Ctx.hasNextStep_braking phase brake).mpr ⟨steps, room, going⟩) low comes passes
      (y := { y with ctx := some (c.afterStep s.clock) }) (by rw [step]; rfl)
  have within' : Axis.followExceeded { y with ctx := some (c.afterStep s.clock) } = false := within
  have ends (h : exhausted = true) : (c.afterStep s.clock).brakeEnd = .exhausted :=
    Ctx.brakeEnd_exhausted (Ctx.brake_afterStep phase brake s.clock) (of_decide_eq_true (all ▸ h)).ge
  have stops (h : exhausted = false) (l : last = true) : (c.afterStep s.clock).brakeEnd = .completed := by
    have more : ¬c.stepsDone + 1 = c.seg.body.total := of_decide_eq_false (all ▸ h)
    have ended : b.issued + 1 = b.count := of_decide_eq_true (final ▸ l)
    exact Ctx.brakeEnd_completed (Ctx.brake_afterStep phase brake s.clock) (show c.stepsDone + 1 < c.seg.body.total by omega) ended.ge
  have report : (completionReport? a { y with ctx := some (c.afterStep s.clock) } (c.afterStep s.clock)).toList = done := by
    rw [bodies]
    exact completionReport?_toList a { y with ctx := some (c.afterStep s.clock) } (c.afterStep s.clock) steps
  obtain ⟨queueY, stY, lowY, enaY, owedY, afterY⟩ : y.queue = c.seg :: q ∧ y.st = (s.axis a).st
      ∧ y.lowAfterOne a = (s.axis a).lowAfterOne a ∧ y.ena = (s.axis a).ena ∧ y.owedFlush = (s.axis a).owedFlush
      ∧ y.enaAfterBrake = (s.axis a).enaAfterBrake := by
    rw [step, e]
    exact ⟨queue, rfl, rfl, rfl, rfl, rfl⟩
  have brakes (st : (s.axis a).st ∈ ([.holding, .stopping, .faultBrake] : List AxisState)) :
      exec i s = .next ((s.setAxis a { y with ctx := some (c.afterStep s.clock) }).settleBrake a) := by
    simp only [List.mem_cons, List.not_mem_nil, or_false] at st
    rw [issued (by rcases st with e | e | e <;> simp [e]), State.stepTo_of_not_run within' rfl
      (by rw [stY]; rcases st with e | e | e <;> simp [e]), settleAll_nil]
  refine ⟨fun st braking isLast more => ?_, fun st' ena flush bodies' course => ?_, fun run settle ended out => ?_⟩
  · have set := s.axis_setAxis_self a { y with ctx := some (c.afterStep s.clock) }
    have moving : (c.afterStep s.clock).phase ≠ .settle := by
      show c.phase ≠ .settle
      rw [braking]
      decide
    rw [brakes (by simp [st]), State.settleBrake_holding_completed set rfl (stY.trans st) (stops more isLast),
      (State.changesTo_holdBrakeDone_of_ne set moving).eq_setAxis, State.setAxis_setAxis, Axis.heldPaused, Ctx.closeWatch_eq, after]
    rfl
  · have key : ∃ t, s.changesTo a { y with
          st := st', rate := 0, ena := ena, ctx := none, owedFlush := if st' = .held then (s.axis a).owedFlush else false
          queue := if flush then [] else q } (bodies' ++ (s.axis a).lowAfterOne a) (if flush then (s.axis a).queue else [c.seg]) t
        ∧ exec i s = .next t := by
      rcases course with ⟨st, how, rfl, rfl, rfl, rfl⟩ | ⟨st, how, rfl, rfl, rfl⟩ | ⟨st, how, rfl, rfl, rfl⟩
      · have ended : (c.afterStep s.clock).brakeEnd = .exhausted
            ∨ (c.afterStep s.clock).brakeEnd = .completed ∧ (c.afterStep s.clock).phase = .settle := by
          cases more : exhausted with
          | true => exact .inl (ends more)
          | false =>
            obtain ⟨isLast, settle⟩ := how.resolve_left (by simp [more])
            exact .inr ⟨stops more isLast, settle⟩
        have held := State.changesTo_brakeHeld (s := s) (a := a) (y := { y with ctx := some (c.afterStep s.clock) }) (q := q) rfl queueY
          (stY.trans st) ended
        rw [report] at held
        exact ⟨_, held.of_eq (by rw [← enaY, ← owedY]; rfl) (by rw [← lowY]; rfl) rfl, brakes (by simp [st])⟩
      · have ready := State.changesTo_brakeReady (s := s) (a := a) (y := { y with ctx := some (c.afterStep s.clock) }) (q := q)
          (bodies := bodies') rfl queueY (stY.trans st) (how.imp (fun h => ⟨ends h.1, h.2.trans report.symm⟩) fun h => ⟨stops h.1 h.2.1, h.2.2⟩)
        exact ⟨_, ready.of_eq (by rw [← owedY]; rfl) (by rw [← lowY]; rfl) (by rw [← owedY, queue, ← queueY]; rfl), brakes (by simp [st])⟩
      · have fault := State.changesTo_brakeFault (s := s) (a := a) (y := { y with ctx := some (c.afterStep s.clock) }) (q := q)
          (bodies := bodies') rfl queueY (stY.trans st) (how.imp (fun h => ⟨ends h.1, h.2.trans report.symm⟩) fun h => ⟨stops h.1 h.2.1, h.2.2⟩)
        exact ⟨_, fault.of_eq (by rw [← afterY]; rfl) (by rw [← lowY]; rfl) rfl, brakes (by simp [st])⟩
    obtain ⟨t, ⟨axis, others, pool, groups, reports, rest⟩, outcome⟩ := key
    refine ⟨t, outcome, axis, reports, pool.trans ?_, groups, others, rest⟩
    cases flush <;> rfl
  · have over' : (c.afterStep s.clock).brakeEnd ≠ .running := by
      cases h : exhausted with
      | true => simp [ends h]
      | false => simp [stops h (by simpa [h] using ended)]
    obtain ⟨u, change, empty, begins⟩ := State.completeAtRest_course (s := s.setAxis a { y with ctx := some (c.afterStep s.clock) })
      (s.axis_setAxis_self a _) rfl queueY (stY.trans run) out
    rw [report] at change
    have course : exec i s = .next (settleAll ((s.setAxis a { y with ctx := some (c.afterStep s.clock) }).completeAtRest a)) := by
      rw [issued (by simp [run]), State.stepTo_of_settled within' rfl (stY.trans run) settle over']
    refine ⟨u, change.of_setAxis.of_eq rfl (by rw [← lowY]; rfl) rfl, fun e => ?_, fun t h => ?_⟩
    · rw [course, empty e]
    · rw [course, begins t h]

end Sys2Proof.Machine

/-!
PROOF. The following error: its value, its evaluation, and a step that leaves it beyond its limit (spec 05 R89 to R91; 07 R122 to R127).
-/

namespace Sys2Proof.Machine

theorem Axis.followExceeded_iff (x : Axis) : x.followExceeded = true ↔
    x.settings.encoderEnable = true ∧ x.st ≠ .off ∧ x.protection.followLimit ≠ 0 ∧ x.protection.followLimit < x.fe.toInt.natAbs := by
  simp [Axis.followExceeded, and_assoc]

section FollowingError
variable {s : State} {a : AxisId} {c k : Ctx} {x y : Axis} {q : List Segment} {i : Instr}

/-- A following error that faults a stepping axis at the step that made it (R122, R123, log 28). -/
theorem State.raiseCause_follow_fault {ena : Bool} {bodies : List ReportBody} {done : List ReportBody} (active : y.ctx = some k)
    (queue : y.queue = k.seg :: q) (st : y.st ∈ ([.run, .holding, .stopping] : List AxisState)) (steps : k.seg.body.makesSteps = true)
    (report : done = (completionReport? a y k).toList)
    (course : y.protection.followPolicy = .halt ∧ ena = false ∧ bodies = [.segmentAborted a k.seg.tag .fault k.stepsDone]
      ∨ y.protection.followPolicy = .brake ∧ ena = y.protection.keepEnable
        ∧ (k.seg.body.total ≤ k.stepsDone ∧ bodies = done
          ∨ k.stepsDone < k.seg.body.total ∧ bodies = [.segmentAborted a k.seg.tag .fault k.stepsDone]
            ∧ (k.brake = none ∧ brakeCount y.rate y.settings.baseRate y.settings.decrement = 0
              ∨ ∃ b, k.brake = some b ∧ b.count ≤ b.issued))) :
    s.changesTo a { y with
        st := .fault, ena := ena, rate := 0, owedFlush := false, ctx := none, queue := q
        enaAfterBrake := if y.protection.followPolicy = .brake then ena else y.enaAfterBrake
        faultRecord := some ⟨.follow, 0, s.deviceTime, y.position, y.encoder.position, y.fe, some k.seg.tag, y.st⟩ }
      (.faultRaised a .follow y.position y.encoder.position y.fe (some k.seg.tag) :: bodies ++ y.lowAfterOne a) [k.seg]
      ((s.setAxis a y).raiseCause a .follow) := by
  have set := s.axis_setAxis_self a y
  rcases course with ⟨halt, rfl, rfl⟩ | ⟨brake, rfl, ended⟩
  · have fault := State.changesTo_limit_halt (cause := .follow) (q := q) set active st queue halt
    have other : ¬y.protection.followPolicy = .brake := by simp [halt]
    refine fault.of_setAxis.of_eq ?_ rfl rfl
    rw [if_neg other]
    rfl
  · have fault := faultBrakeBeginsAndLaterCausesJoin.2.1 (s.setAxis a y) a y k q .follow set.symm active queue st steps brake bodies
      (ended.symm.imp (fun ⟨room, e, how⟩ => ⟨room, how, e⟩) fun ⟨all, e⟩ =>
        ⟨all, e.trans (report.trans (completionReport?_toList a y k steps))⟩)
    obtain ⟨axis, reports, pool, groups, others⟩ := fault
    refine State.changesTo.of_setAxis (x := y) (.of_touches (State.touches_raiseCause _ _ _) (axis.trans ?_) pool groups reports)
    rw [if_pos brake]
    rfl

/-- A following error in FAULT_BRAKE under BRAKE joins the record, and the step's own effects follow (R90, R127). -/
theorem State.stepTo_of_follow_join {r : FaultRecord} (exceeded : y.followExceeded = true) (active : y.ctx = some k)
    (st : y.st = .faultBrake) (record : y.faultRecord = some r) (brake : y.protection.followPolicy = .brake) :
    s.stepTo a y
      = ((s.setAxis a { y with faultRecord := some { r with additional := r.additional ||| 8#8 } }).settleBrake a, []) := by
  have set := s.axis_setAxis_self a y
  have join := State.raiseCause_join (s := s.setAxis a y) (a := a) (cause := .follow) (r := r) (by rw [set]; exact record)
    (.inr (by rw [set]; exact ⟨st, brake⟩))
  rw [set, State.setAxis_setAxis] at join
  rw [State.stepTo_of_exceeded exceeded, join]
  exact State.stepEffects_of_not_run (s.axis_setAxis_self a _) active (by rw [st]; decide)

/-- A following error in FAULT_BRAKE under HALT cuts the brake (R90, R127). -/
theorem State.stepTo_of_follow_cut {r : FaultRecord} (exceeded : y.followExceeded = true) (active : y.ctx = some k)
    (queue : y.queue = k.seg :: q) (st : y.st = .faultBrake) (record : y.faultRecord = some r) (halt : y.protection.followPolicy = .halt) :
    ∃ t, s.stepTo a y = (t, []) ∧ s.changesTo a { y with
        st := .fault, ena := false, rate := 0, owedFlush := false, ctx := none, queue := q
        faultRecord := some { r with additional := r.additional ||| 8#8 } }
      (.segmentAborted a k.seg.tag .fault k.stepsDone :: y.lowAfterOne a) [k.seg] t := by
  have set := s.axis_setAxis_self a y
  have cut := State.changesTo_cut (cause := .follow) (q := q) set active st queue record halt
  refine ⟨_, ?_, cut.of_setAxis⟩
  rw [State.stepTo_of_exceeded exceeded, State.raiseCause_later (.inl (by rw [set]; exact st))]
  exact State.stepEffects_of_none (by rw [cut.axis])

end FollowingError

/-- Settles O6. -/
theorem followingErrorIsComparedWithItsLimit : Obligations.FollowingErrorIsComparedWithItsLimit := by
  refine ⟨fun x => ⟨rfl, x.followExceeded_iff, fun e => by rw [e]; decide⟩, fun s a => rfl, ?_⟩
  rintro s a x w y c k q i done rfl active queue st next passes low comes counted step exceeded report
  rw [← Ctx.afterStep_eq] at counted
  obtain ⟨frame, same⟩ := passes.frame
  obtain ⟨r', e⟩ : ∃ r, w = { s.axis a with faultRecord := r } := ⟨_, frame⟩
  have steps := Ctx.makesSteps_of_hasNextStep next
  have issued := exec_stepIssued rfl active st next low comes passes (y := y) (by rw [step, counted])
  have seg : k.seg = c.seg := by rw [counted]; rfl
  have activeY : y.ctx = some k := by rw [step]; rfl
  obtain ⟨queueY, stY, lowY, protY, setY, encY, afterY⟩ : y.queue = k.seg :: q ∧ y.st = (s.axis a).st
      ∧ y.lowAfterOne a = (s.axis a).lowAfterOne a ∧ y.protection = (s.axis a).protection ∧ y.settings = (s.axis a).settings
      ∧ y.encoder = (s.axis a).encoder ∧ y.enaAfterBrake = (s.axis a).enaAfterBrake := by
    rw [step, e, seg]
    exact ⟨queue, rfl, rfl, rfl, rfl, rfl, rfl⟩
  have room : c.stepsDone + 1 ≤ c.seg.body.total := by
    unfold Ctx.hasNextStep at next
    simp only [Bool.and_eq_true, decide_eq_true_eq] at next
    exact next.1.2
  have room' : k.stepsDone ≤ k.seg.body.total := by rw [counted]; exact room
  have done' : done = (completionReport? a y k).toList := by
    rw [report, completionReport?_toList a y k (by rw [seg]; exact steps), counted]
    rfl
  have first (nofb : (s.axis a).st ≠ .faultBrake) : y.st ∈ ([.run, .holding, .stopping] : List AxisState) := by
    rw [stY]
    simp only [List.mem_cons, List.not_mem_nil, or_false] at st ⊢
    rcases st with h | h | h | h
    · exact .inl h
    · exact .inr (.inl h)
    · exact .inr (.inr h)
    · exact absurd h nofb
  have raises (nofb : (s.axis a).st ≠ .faultBrake) : exec i s = .next ((s.setAxis a y).raiseCause a .follow) := by
    rw [issued, State.stepTo_of_follow exceeded (first nofb) activeY (by rw [seg]; exact steps), settleAll_nil]
  refine ⟨raises, fun ena bodies nofb course => ?_, fun r z fb record joined => ⟨fun b brake more braked left => ?_, fun ena bodies course => ?_⟩⟩
  · have change := State.raiseCause_follow_fault (s := s) (a := a) (ena := ena) (bodies := bodies) (done := done) activeY queueY
      (first nofb) (by rw [seg]; exact steps) done' (by
        rw [protY, setY, seg]
        refine course.imp id fun ⟨brake, level, how⟩ => ⟨brake, level, how.imp (fun ⟨all, b⟩ => ⟨all.ge, b⟩) fun ⟨more, b, ended⟩ => ?_⟩
        refine ⟨Nat.lt_of_le_of_ne (seg ▸ room') more, b, ended.imp (fun ⟨unbraked, zero⟩ => ⟨?_, zero⟩) id⟩
        rw [counted, Ctx.afterStep_eq, unbraked]
        exact ite_self _)
    obtain ⟨axis, others, pool, groups, reports, rest⟩ := change
    rw [protY, encY, lowY, stY, afterY, seg] at *
    exact ⟨_, raises nofb, axis, reports, others, pool, groups, rest⟩
  · have recordY : y.faultRecord = some r := by rw [step]; exact record
    have going : k.brakeEnd = .running := Ctx.brakeEnd_running braked (Nat.lt_of_le_of_ne room' (by rw [seg]; exact more)) left
    rw [issued, State.stepTo_of_follow_join exceeded activeY (stY.trans fb) recordY (by rw [protY]; exact brake), settleAll_nil, ← joined,
      State.settleBrake_running (s.axis_setAxis_self a z) (by rw [joined]; exact activeY) going]
  · have recordY : y.faultRecord = some r := by rw [step]; exact record
    have key : ∃ t, exec i s = .next t ∧ s.changesTo a { z with
        st := .fault, ena := ena, rate := 0, owedFlush := false, ctx := none, queue := q } (bodies ++ y.lowAfterOne a) [k.seg] t := by
      rcases course with ⟨halt, rfl, rfl⟩ | ⟨brake, rfl, braked, ended⟩
      · obtain ⟨t, cut, change⟩ := State.stepTo_of_follow_cut (s := s) (a := a) exceeded activeY queueY (stY.trans fb) recordY
          (by rw [protY]; exact halt)
        rw [cut, settleAll_nil] at issued
        exact ⟨t, issued, change.of_eq (by rw [joined]) (by rw [seg]; rfl) rfl⟩
      · obtain ⟨b, braked⟩ := Option.isSome_iff_exists.mp braked
        rw [State.stepTo_of_follow_join exceeded activeY (stY.trans fb) recordY (by rw [protY]; exact brake), settleAll_nil, ← joined]
          at issued
        have ends : k.brakeEnd = .exhausted ∧ bodies = (completionReport? a z k).toList
            ∨ k.brakeEnd = .completed ∧ bodies = [.segmentAborted a k.seg.tag .fault k.stepsDone] := by
          rcases ended with ⟨all, e⟩ | ⟨more, ⟨b', braked', over'⟩, e⟩
          · exact .inl ⟨Ctx.brakeEnd_exhausted braked (by rw [seg]; exact all.ge), by rw [e, done', joined]; rfl⟩
          · exact .inr ⟨Ctx.brakeEnd_completed braked' (Nat.lt_of_le_of_ne room' (by rw [seg]; exact more)) over', by rw [e, seg]⟩
        have fault := State.changesTo_brakeFault (s := s) (a := a) (y := z) (q := q) (by rw [joined]; exact activeY)
          (by rw [joined]; exact queueY) (by rw [joined]; exact stY.trans fb) ends
        exact ⟨_, issued, fault.of_eq (by rw [← afterY, joined]) (by rw [joined]; rfl) rfl⟩
    obtain ⟨t, outcome, axis, others, pool, groups, reports, rest⟩ := key
    rw [lowY] at reports
    rw [seg] at pool groups
    exact ⟨t, outcome, axis, reports, others, pool, groups, rest⟩

end Sys2Proof.Machine

/-!
PROOF. The trigger edge of an open watch: by which change it comes, and the settle that it begins (spec 04 R70 to R74; 05 R88).
-/

namespace Sys2Proof.Machine

section TriggerEdge
variable {s : State} {a : AxisId} {c k : Ctx} {x y : Axis} {d : Dir} {rate max t : Nat} {src : TrigSource} {e : TrigEdge}
  {found : ReportBody}

/-! ## The edge comes -/

theorem Axis.watches_of_seek {source : TrigSource} {toActive : Bool} (st : x.st = .run ∨ x.st = .holding) (active : x.ctx = some c)
    (body : c.seg.body = .seek d rate max source e) (watch : c.watch = some .opened) (edge : e = .toActive ↔ toActive = true) :
    x.watches source toActive = true :=
  (Axis.watches_iff _ _ _).mpr ⟨st, c, d, rate, max, e, active, watch, body, edge⟩

/-- An axis that watches another source does not watch this one. -/
theorem Axis.watches_of_other {source : TrigSource} (toActive : Bool) (active : x.ctx = some c)
    (body : c.seg.body = .seek d rate max src e) (other : src ≠ source) : ¬x.watches source toActive = true := by
  rw [Axis.watches_iff]
  rintro ⟨-, c', d', rate', max', e', active', -, body', -⟩
  rw [active, Option.some.injEq] at active'
  subst active'
  rw [body] at body'
  injection body' with _ _ _ source' _
  exact other source'

theorem Axis.triggerPending_of_clear (active : x.ctx = some c) (clear : c.edgePending = false) : ¬x.triggerPending = true := by
  rw [Axis.triggerPending_iff]
  rintro ⟨-, c', active', pending, -⟩
  rw [active, Option.some.injEq] at active'
  subst active'
  simp [clear] at pending

/-- A change that brings the trigger edge, by the level before it. -/
theorem edge_of_level {level : Bool} (h : level = true ↔ e = .toInactive) : e = .toActive ↔ (!level) = true := by
  cases e <;> cases level <;> simp_all

/-- A level whose change is delivered while the raw level has not returned. -/
theorem InputLine.deliver_of_changed {l : InputLine} (changed : l.raw ≠ l.filtered) (clock filterTime : Nat) :
    l.deliver clock filterTime = ⟨l.raw, l.raw, none⟩ ∧ (!l.filtered) = l.raw := by
  have turned : (!l.filtered) = l.raw := by cases h : l.filtered <;> cases g : l.raw <;> simp_all
  exact ⟨by rw [InputLine.deliver_eq, if_neg changed, turned], turned⟩

/-- An index edge on its way to the watch is the trigger edge. -/
theorem execSeekTriggerEdge_pending (axis : s.axis a = x) (active : x.ctx = some c) (st : x.st = .run ∨ x.st = .holding)
    (watch : c.watch = some .opened) (pending : c.edgePending = true) : exec (.seekTriggerEdge a) s = .next (s.triggerFound a) := by
  subst axis
  exact congrArg Host.Outcome.next (if_pos ((Axis.triggerPending_iff _).mpr ⟨st, c, active, pending, watch⟩))

/-- A change of HOME is the trigger edge. -/
theorem execSeekTriggerEdge_home (axis : s.axis a = x) (active : x.ctx = some c) (st : x.st = .run ∨ x.st = .holding)
    (body : c.seg.body = .seek d rate max .home e) (watch : c.watch = some .opened) (clear : c.edgePending = false)
    (edge : x.inputActive .home = true ↔ e = .toInactive) (timed : (x.inputs.line .home).due = some t) (due : t ≤ s.clock) :
    exec (.seekTriggerEdge a) s = .next ((s.deliverInput a .home).triggerFound a) := by
  subst axis
  obtain ⟨runs, now⟩ := State.inputDue_delivered timed due
  have watches : (s.axis a).watches .home ((s.axis a).nextActive .home) = true := by
    rw [Axis.nextActive_eq]
    exact Axis.watches_of_seek st active body watch (edge_of_level edge)
  refine congrArg Host.Outcome.next ((if_neg (Axis.triggerPending_of_clear active clear)).trans ((if_pos watches).trans ?_))
  rw [runs]
  exact congrArg (fun u => (State.deliverInput u a .home).triggerFound a) now

/-- A change of ENCI is the trigger edge. -/
theorem execSeekTriggerEdge_index (axis : s.axis a = x) (active : x.ctx = some c) (st : x.st = .run ∨ x.st = .holding)
    (body : c.seg.body = .seek d rate max .index e) (watch : c.watch = some .opened) (clear : c.edgePending = false)
    (idle : x.encoder.edgePending = false) (edge : x.inputs.enci.filtered = true ↔ e = .toInactive)
    (timed : (x.inputs.line .enci).due = some t) (due : t ≤ s.clock) :
    exec (.seekTriggerEdge a) s = .next ((s.deliverEnci a).triggerFound a) := by
  subst axis
  obtain ⟨runs, now⟩ := State.inputDue_delivered timed due
  have home := Axis.watches_of_other (source := .home) ((s.axis a).nextActive .home) active body (by decide)
  have watches : ((s.axis a).watches .index ((s.axis a).nextActive .enci) && !(s.axis a).encoder.edgePending) = true := by
    have level : (s.axis a).nextActive .enci = !(s.axis a).inputs.enci.filtered := beq_true _
    rw [idle, level, Axis.watches_of_seek st active body watch (edge_of_level edge)]
    rfl
  refine congrArg Host.Outcome.next ((if_neg (Axis.triggerPending_of_clear active clear)).trans
    ((if_neg home).trans ((if_pos watches).trans ?_)))
  rw [runs]
  exact congrArg (fun u => (State.deliverEnci u a).triggerFound a) now

/-- Whichever change brings the edge, the watch finds it on the axis as the change has left it. -/
theorem execSeekTriggerEdge_eq (axis : s.axis a = x) (active : x.ctx = some c) (st : x.st = .run ∨ x.st = .holding)
    (body : c.seg.body = .seek d rate max src e) (watch : c.watch = some .opened)
    (comes : c.edgePending = true ∧ y = x
      ∨ (∃ t, src = .home ∧ c.edgePending = false ∧ (x.inputActive .home = true ↔ e = .toInactive)
        ∧ (x.inputs.line .home).due = some t ∧ t ≤ s.clock ∧ (x.inputs.line .home).raw ≠ (x.inputs.line .home).filtered
        ∧ y = { x with inputs := { x.inputs with home := ⟨x.inputs.home.raw, x.inputs.home.raw, none⟩ } })
      ∨ (∃ t, src = .index ∧ c.edgePending = false ∧ x.encoder.edgePending = false
        ∧ (x.inputs.enci.filtered = true ↔ e = .toInactive) ∧ (x.inputs.line .enci).due = some t ∧ t ≤ s.clock
        ∧ (x.inputs.line .enci).raw ≠ (x.inputs.line .enci).filtered
        ∧ y = { x with
            inputs := { x.inputs with enci := ⟨x.inputs.enci.raw, x.inputs.enci.raw, none⟩ }
            encoder := { x.encoder with edgePending := x.inputs.enci.raw } })) :
    ∃ p, exec (.seekTriggerEdge a) s = .next ((s.setAxis a { y with ctx := some { c with edgePending := p } }).triggerFound a) := by
  rcases comes with ⟨pending, rfl⟩ | ⟨t, rfl, clear, edge, timed, due, changed, rfl⟩ | ⟨t, rfl, clear, idle, edge, timed, due, changed, rfl⟩
  · have same : { y with ctx := some { c with edgePending := true } } = s.axis a := by rw [axis, ← pending, ← active]
    refine ⟨true, ?_⟩
    rw [execSeekTriggerEdge_pending axis active st watch pending, same, State.setAxis_axis]
  · have delivered := (InputLine.deliver_of_changed changed s.clock (x.settings.filterTime .home)).1
    refine ⟨false, ?_⟩
    rw [execSeekTriggerEdge_home axis active st body watch clear edge timed due, State.deliverInput_eq, axis, Axis.delivered, delivered,
      ← clear, ← active]
    rfl
  · obtain ⟨delivered, turned⟩ := InputLine.deliver_of_changed (l := x.inputs.enci) changed s.clock (x.settings.filterTime .enci)
    have watches := Axis.watches_of_seek st active body watch (edge_of_level edge)
    refine ⟨true, ?_⟩
    rw [execSeekTriggerEdge_index axis active st body watch clear idle edge timed due, State.deliverEnci_eq axis, if_pos watches, delivered,
      idle, turned, active]
    rfl

/-! ## The edge is found -/

/-- The state at the edge: the captures made, Seek Result created (R72). -/
def State.edgeFound (s : State) (a : AxisId) (y : Axis) (found : ReportBody) : State := (s.setAxis a y).report found

theorem State.edgeFound_setAxis (x : Axis) : (s.setAxis a x).edgeFound a y found = s.edgeFound a y found := by
  rw [State.edgeFound, State.setAxis_setAxis, State.edgeFound]

theorem State.changesTo_edgeFound : s.changesTo a y [found] [] (s.edgeFound a y found) := by
  have report := (s.setAxis a y).changesTo_report a found
  rw [State.axis_setAxis_self] at report
  exact report.of_setAxis

theorem State.triggerFound_eq (axis : s.axis a = x) (active : x.ctx = some c) :
    s.triggerFound a = settleAll ((s.edgeFound a { x with ctx := some (x.foundCtx c) }
      (.seekResult a c.seg.tag true c.stepsDone (some x.position)
        (if x.settings.encoderEnable then some x.encoder.position else none))).stepEffects a) := by
  subst axis
  simp only [State.triggerFound, active, State.edgeFound, State.modAxis_eq]

theorem Axis.foundCtx_run (run : x.st = .run) : x.foundCtx c = { c with
    phase := .settle, brake := some ⟨x.rate, 0, brakeCount x.rate x.settings.baseRate x.settings.decrement⟩, delayed := none
    watch := some .found, captured := some (x.position, if x.settings.encoderEnable then some x.encoder.position else none)
    edgePending := false } := by
  rw [Axis.foundCtx, if_pos run]
  rfl

theorem Axis.foundCtx_holding (holding : x.st = .holding) : x.foundCtx c = { c with
    phase := .settle, watch := some .found
    captured := some (x.position, if x.settings.encoderEnable then some x.encoder.position else none), edgePending := false } := by
  rw [Axis.foundCtx, if_neg (by simp [holding])]

/-- The mark of an edge on its way is gone once it is found. -/
theorem Axis.foundCtx_edgePending (x : Axis) (c : Ctx) (p : Bool) : x.foundCtx { c with edgePending := p } = x.foundCtx c := by
  by_cases run : x.st = .run <;> simp [Axis.foundCtx, run, Ctx.beginBrake]

/-- A settle whose brake runs has nothing further to do at the edge. -/
theorem State.stepEffects_edgeFound (active : y.ctx = some k) (phase : k.phase = .settle) (going : k.brakeEnd = .running) :
    (s.edgeFound a y found).stepEffects a = (s.edgeFound a y found, []) := by
  have axis : (s.edgeFound a y found).axis a = y := State.changesTo_edgeFound.axis
  by_cases run : y.st = .run
  · exact State.stepEffects_of_settling axis active run phase going
  · rw [State.stepEffects_of_not_run axis active run, State.settleBrake_running axis active going]

end TriggerEdge

/-- Settles O53. -/
theorem triggerEdgeIsFound : Obligations.TriggerEdgeIsFound := by
  rintro s a x y c k d rate max N src e enc found rfl active body watch room number enc' found' comes
  obtain ⟨inputs, p, frame⟩ : ∃ inputs p, y = { s.axis a with
      inputs := inputs, encoder := { (s.axis a).encoder with edgePending := p } } := by
    rcases comes with ⟨-, rfl⟩ | ⟨t, -, -, -, -, -, -, rfl⟩ | ⟨t, -, -, -, -, -, -, -, rfl⟩ <;> exact ⟨_, _, rfl⟩
  have course (st : (s.axis a).st = .run ∨ (s.axis a).st = .holding) :
      exec (.seekTriggerEdge a) s = .next (settleAll ((s.edgeFound a { y with ctx := some (y.foundCtx c) } found).stepEffects a)) := by
    obtain ⟨p, edge⟩ := execSeekTriggerEdge_eq rfl active st body watch comes
    have marked : Axis.foundCtx { y with ctx := some { c with edgePending := p } } { c with edgePending := p } = y.foundCtx c :=
      Axis.foundCtx_edgePending y c p
    rw [edge, State.triggerFound_eq (State.axis_setAxis_self s a _) rfl, State.edgeFound_setAxis, marked, found', enc', frame]
  have left : c.stepsDone < c.seg.body.total := by rw [body]; exact room
  have found_run (run : (s.axis a).st = .run) : y.foundCtx c = { c with
      phase := .settle, brake := some ⟨(s.axis a).rate, 0, N⟩, delayed := none, watch := some .found
      captured := some ((s.axis a).position, enc), edgePending := false } := by
    rw [Axis.foundCtx_run (by rw [frame]; exact run), enc', number, frame]
  refine ⟨fun how => ?_, fun q run zero queue out => ?_⟩
  · obtain ⟨st, found_k, phase, going⟩ : ((s.axis a).st = .run ∨ (s.axis a).st = .holding) ∧ y.foundCtx c = k ∧ k.phase = .settle
        ∧ k.brakeEnd = .running := by
      rcases how with ⟨run, some', rfl⟩ | ⟨holding, ⟨b, brake, more⟩, rfl⟩
      · exact ⟨.inl run, found_run run, rfl, Ctx.brakeEnd_running rfl left some'⟩
      · refine ⟨.inr holding, ?_, rfl, Ctx.brakeEnd_running brake left more⟩
        rw [Axis.foundCtx_holding (by rw [frame]; exact holding), enc', frame]
    rw [course st, State.stepEffects_edgeFound rfl (by rw [found_k]; exact phase) (by rw [found_k]; exact going), settleAll_nil, found_k]
    rfl
  · have edge := State.changesTo_edgeFound (s := s) (a := a) (y := { y with ctx := some (y.foundCtx c) }) (found := found)
    have ended : (y.foundCtx c).brakeEnd = .completed := by
      rw [found_run run]
      exact Ctx.brakeEnd_completed rfl left zero.le
    have settles := State.stepEffects_of_settled edge.axis rfl (by rw [frame]; exact run) (by rw [found_run run]) (by rw [ended]; decide)
    obtain ⟨u, change, empty, begins⟩ := State.completeAtRest_course (q := q) edge.axis rfl
      (by rw [found_run run, frame]; exact queue) (by rw [frame]; exact run) (fun g => by rw [edge.group]; exact out g)
    have silent : (completionReport? a { y with ctx := some (y.foundCtx c) } (y.foundCtx c)).toList = [] := by
      rw [found_run run]
      simp only [completionReport?, body, if_true, Option.toList]
    rw [silent] at change
    refine ⟨u, (edge.trans change).of_eq rfl ?_ ?_, fun e => ?_, fun t h => ?_⟩
    · rw [frame]
      rfl
    · rw [found_run run]
      rfl
    · rw [course (.inl run), settles, empty e]
    · rw [course (.inl run), settles, begins t h]

end Sys2Proof.Machine

/-!
PROOF. A complete arrival releases its group, and every member's head is begun (spec 06 R103, R104; 02 R32, R33, R37, R43, R44).
-/

namespace Sys2Proof.Machine

/-! ## The rate and the context take no part in the pulse and DIR -/

theorem Axis.pulseOver_setMotion (now : Nat) (z : Axis) (rate : Nat) (ctx : Option Ctx) :
    Axis.pulseOver now { z with rate := rate, ctx := ctx } = { z.pulseOver now with rate := rate, ctx := ctx } := by
  unfold Axis.pulseOver
  dsimp only
  split <;> rfl

theorem Axis.turnsFor.setMotion {now due : Nat} {dir : Dir} {z w : Axis} (h : z.turnsFor now dir w due) (rate : Nat) (ctx : Option Ctx) :
    Axis.turnsFor now dir { z with rate := rate, ctx := ctx } { w with rate := rate, ctx := ctx } due := by
  rcases h with ⟨shown, rfl, rfl⟩ | ⟨shown, low, rfl, rfl⟩ | ⟨shown, high, rfl, rfl⟩
  · exact .inl ⟨shown, rfl, rfl⟩
  · exact .inr (.inl ⟨shown, low, rfl, rfl⟩)
  · exact .inr (.inr ⟨shown, high, rfl, rfl⟩)

section OneMember
variable {v : State} {m : AxisId} {x y z : Axis} {seg : Segment} {q : List Segment} {r : Nat} {st : AxisState}

/-! ## One member -/

/-- A DWELL that is begun (R43). -/
theorem State.settle_activate_dwell {d : Nat} {report : Bool} (may : v.mayStart m) (queue : (v.axis m).queue = seg :: q)
    (body : seg.body = .dwell d report) (rest : List Task) :
    v.settle (.activate m none :: rest) = (v.setAxis m { v.axis m with
      st := .run, rate := 0, ctx := some ⟨seg, .timing, 0, d, none, none, 0, none, none, none, false⟩ }).settle rest := by
  rw [State.settle_cons, State.runTask, State.activate_of_dwell may queue body none]
  rfl

/-- A MOVE or SEEK that is begun from standstill: its first step falls due (R37). -/
theorem State.settle_activate_steps (may : v.mayStart m) (axis : v.axis m = { z with st := st, rate := r }) (queue : z.queue = seg :: q)
    (steps : seg.body.makesSteps = true) (run : z.st = .run) (rest : List Task) :
    v.settle (.activate m none :: rest)
      = (v.setAxis m { z with rate := r, ctx := some seg.freshCtx }).settle (.stepNow m :: rest) := by
  rw [State.settle_cons, State.runTask, State.activate_of_makesSteps may (q := q) (by rw [axis]; exact queue) steps, axis, ite_self, ← run]
  rfl

section MemberStarts
variable {w : Axis} {due : Nat} (run : z.st = .run) (steps : seg.body.makesSteps = true) (some' : 0 < seg.body.total)
  (turns : (z.pulseOver v.clock).turnsFor v.clock seg.body.dir w due)
include run steps some' turns

/-- The first step of a MOVE or SEEK, as it falls due. -/
theorem State.stepFallsDue_first : (v.setAxis m { z with rate := r, ctx := some seg.freshCtx }).stepFallsDue m =
    if due ≤ v.clock then (v.setAxis m { w with rate := r, ctx := some seg.freshCtx }).attemptStep m
    else (v.setAxis m { w with rate := r, ctx := some { seg.freshCtx with delayed := some due } }, []) := by
  have same : (z.pulseOver v.clock).st = z.st := by rw [Axis.pulseOver_eq, Axis.endPulseIfOver_frame]
  have stepping : Axis.stepping { z.pulseOver v.clock with rate := r, ctx := some seg.freshCtx } = true :=
    (Axis.stepping_of_ctx rfl).mpr ⟨by rw [same, run]; decide, steps⟩
  have axis : ((v.setAxis m { z with rate := r, ctx := some seg.freshCtx }).axis m).pulseOver v.clock
      = { z.pulseOver v.clock with rate := r, ctx := some seg.freshCtx } := by
    rw [State.axis_setAxis_self]
    exact Axis.pulseOver_setMotion _ _ _ _
  have due' := State.stepFallsDue_turned (s := v.setAxis m { z with rate := r, ctx := some seg.freshCtx }) (a := m) axis rfl stepping
    (Segment.hasNextStep_freshCtx steps some') rfl (turns.setMotion r (some seg.freshCtx))
  rw [State.setAxis_setAxis, State.setAxis_setAxis] at due'
  exact due'

theorem State.settle_step_delayed (wait : v.clock < due) (rest : List Task) :
    (v.setAxis m { z with rate := r, ctx := some seg.freshCtx }).settle (.stepNow m :: rest)
      = (v.setAxis m { w with rate := r, ctx := some { seg.freshCtx with delayed := some due } }).settle rest := by
  rw [State.settle_cons, State.runTask, State.stepFallsDue_first run steps some' turns, if_neg (Nat.not_le.mpr wait)]
  rfl

theorem State.settle_step_issued (more : 1 < seg.body.total) (now : due ≤ v.clock) (clear : w.atLimit seg.body.dir = false)
    (within : y.followExceeded = false)
    (step : y = w.stepped v.clock (seg.body.profileRate 1) seg.body.dir { seg.freshCtx with stepsDone := 1, lastStep := some v.clock })
    (rest : List Task) :
    (v.setAxis m { z with rate := r, ctx := some seg.freshCtx }).settle (.stepNow m :: rest) = (v.setAxis m y).settle rest := by
  obtain ⟨frame, high, pulseEnd⟩ := turns.frame
  have going : ¬(w.output.high = true ∧ w.output.pulseEnd ≤ v.clock) := by
    rw [high, pulseEnd]
    exact Axis.going_pulseOver _ _
  have runW : w.st = .run := by rw [frame, Axis.pulseOver_eq, Axis.endPulseIfOver_frame]; exact run
  have set := State.axis_setAxis_self v m { w with rate := r, ctx := some seg.freshCtx }
  have issued := State.attemptStep_of_clear (s := v.setAxis m { w with rate := r, ctx := some seg.freshCtx }) (a := m) (c := seg.freshCtx)
    (by rw [set]) (by rw [set]; exact clear) (by rw [set]; exact going)
  rw [set, State.stepTo_setAxis] at issued
  have ends : v.stepTo m y = (v.setAxis m y, []) :=
    State.stepTo_of_more within (c := { seg.freshCtx with stepsDone := 1, lastStep := some v.clock }) (by rw [step]; rfl)
      (by rw [step]; exact runW) (by simp [Segment.freshCtx]) more
  rw [State.settle_cons, State.runTask, State.stepFallsDue_first run steps some' turns, if_pos now, issued]
  refine (congrArg (fun y => (v.stepTo m y).1.settle ((v.stepTo m y).2 ++ rest)) step.symm).trans ?_
  rw [ends]
  rfl

end MemberStarts

/-- The head of a member, not a MARK, is begun: a DWELL, or a MOVE or SEEK with its first step (R37, R43). -/
theorem State.settle_activate_head {now : Nat} (clock : v.clock = now) (may : v.mayStart m) (axis : v.axis m = { z with st := st, rate := r })
    (rate : r = 0 ∨ r = z.rate) (run : z.st = .run)
    (course : (∃ seg d report, z.queue.head? = some seg ∧ seg.body = .dwell d report
        ∧ y = { z with rate := 0, ctx := some ⟨seg, .timing, 0, d, none, none, 0, none, none, none, false⟩ })
      ∨ (∃ seg w due, z.queue.head? = some seg ∧ seg.body.makesSteps = true
        ∧ (z.pulseOver now).turnsFor now seg.body.dir w due ∧
        (0 < seg.body.total ∧ now < due ∧ z.rate = 0 ∧ y = { w with ctx := some { seg.freshCtx with delayed := some due } }
          ∨ 1 < seg.body.total ∧ due ≤ now ∧ w.atLimit seg.body.dir = false ∧ y.followExceeded = false
            ∧ y = w.stepped now (seg.body.profileRate 1) seg.body.dir { seg.freshCtx with stepsDone := 1, lastStep := some now })))
    (rest : List Task) : v.settle (.activate m none :: rest) = (v.setAxis m y).settle rest := by
  subst clock
  rcases course with ⟨seg, d, report, head, body, rfl⟩ | ⟨seg, w, due, head, steps, turns, course⟩
  · obtain ⟨q, queue⟩ := List.head?_eq_some_iff.mp head
    rw [State.settle_activate_dwell may (q := q) (by rw [axis]; exact queue) body, axis, ← run]
  · obtain ⟨q, queue⟩ := List.head?_eq_some_iff.mp head
    rw [State.settle_activate_steps may axis queue steps run]
    rcases course with ⟨some', wait, still, rfl⟩ | ⟨more, now, clear, within, step⟩
    · have rateW : r = w.rate := by
        rw [turns.frame.1, Axis.pulseOver_eq, Axis.endPulseIfOver_frame]
        exact rate.elim (fun e => e.trans still.symm) id
      rw [State.settle_step_delayed run steps some' turns wait, rateW]
    · exact State.settle_step_issued run steps (by omega) turns more now clear within step rest

/-- A MARK that is begun is gone, and the next head is begun (R33, R44). -/
theorem State.settle_activate_mark (may : v.mayStart m) (axis : v.axis m = { x with st := st, rate := r }) (queue : x.queue = seg :: q)
    (body : seg.body = .mark) : ∃ u, u.mayStart m
      ∧ v.changesTo m { x with queue := q, st := .run, rate := r }
        (.markReached m seg.tag x.position x.encoder.position :: x.lowAfterOne m) [seg] u
      ∧ ∀ rest, v.settle (.activate m none :: rest) = u.settle (.beginHead m none :: rest) := by
  have idle : x.ctx = none := by
    have ctx := may.1
    rw [axis] at ctx
    exact ctx
  obtain ⟨change, tasks⟩ := State.activate_of_mark may (q := q) (by rw [axis]; exact queue) body none
  rw [axis, ite_self] at tasks
  rw [axis] at change
  refine ⟨_, change.mayStart rfl rfl may.2.2, change.of_eq (by rw [← idle]) rfl rfl, fun rest => ?_⟩
  rw [State.settle_cons, State.runTask, tasks]
  rfl

/-- A member of a released group: its head, with the MARKs before it, is begun (R32, R33, R104). -/
theorem State.settle_activates {now : Nat} {gone : List Segment} : ∀ {v : State} {x : Axis} {st : AxisState} {reports : List ReportBody},
    v.clock = now → v.mayStart m → v.axis m = { x with st := st, rate := r } → (r = 0 ∨ r = x.rate) → x.activates now m y reports gone →
    ∃ u, v.changesTo m y reports gone u ∧ ∀ rest, v.settle (.activate m none :: rest) = u.settle rest := by
  induction gone with
  | nil =>
    rintro v x st reports clock may axis rate ⟨q, z, queue, -, -, -, rfl, rfl, course⟩
    refine ⟨v.setAxis m y, v.changesTo_setAxis m y, fun rest => ?_⟩
    refine State.settle_activate_head (z := { x with st := .run, queue := q }) (st := st) (r := r) clock may ?_ rate rfl
      (course.resolve_left fun h => h.1 rfl) rest
    rw [axis, queue]
    rfl
  | cons mark gone ih =>
    rintro v x st reports clock may axis rate ⟨q, z, queue, marks, ungated, next, rfl, rfl, course⟩
    obtain ⟨u, may', change, settle⟩ := State.settle_activate_mark (q := gone ++ q) may axis queue (marks mark (by simp))
    have left : { x with queue := x.queue.tail } = { x with queue := gone ++ q } := by rw [queue]; rfl
    by_cases empty : gone ++ q = []
    · obtain ⟨rfl, rfl⟩ := List.append_eq_nil_iff.mp empty
      have idle : x.ctx = none := by
        have ctx := may.1
        rw [axis] at ctx
        exact ctx
      have starved : y = { x with st := .run, queue := [], rate := 0 } := by
        rcases course with ⟨-, -, e⟩ | ⟨seg, d, report, head, -⟩ | ⟨seg, w, due, head, -⟩
        · rw [e, ← idle]
        · cases head
        · cases head
      have begin := State.beginHead_of_nil may' (by rw [change.axis]; rfl) none
      rw [change.axis, List.append_nil] at begin
      refine ⟨u.setAxis m y, (change.trans (u.changesTo_setAxis m y)).of_eq rfl ?_ rfl, fun rest => ?_⟩
      · rfl
      · rw [settle, State.settle_cons, State.runTask, begin, starved]
        rfl
    · obtain ⟨seg, q', tail⟩ := List.exists_cons_of_ne_nil empty
      have gate : seg.gate = none := by
        cases gone with
        | nil => exact next (by simp) seg (by rw [List.nil_append] at tail; rw [tail]; rfl)
        | cons other gone =>
          injection tail with same _
          exact same ▸ ungated other (by simp)
      have begin := State.beginHead_of_ungated (q := q') may' (by rw [change.axis]; exact tail) gate none
      obtain ⟨t, change', settle'⟩ := ih (v := u) (x := { x with queue := gone ++ q }) (st := .run) (change.touches.1.clock.trans clock)
        may' change.axis rate ⟨q, _, rfl, fun n h => marks n (by simp [h]), fun n h => ungated n (List.mem_of_mem_tail h),
          fun _ => next (by simp), rfl, rfl, course.imp_left fun ⟨_, last, e⟩ => ⟨fun none' => empty (by simp [none', last]), last, e⟩⟩
      refine ⟨t, (change.trans change').of_eq rfl ?_ rfl, fun rest => ?_⟩
      · rw [marksReached, left]
        rfl
      · rw [settle, State.settle_cons, State.runTask, begin]
        exact settle' rest

end OneMember

/-! ## All members -/

/-- `m` stands in `v` as `x`, but perhaps for its state and its rate, and its head may be begun. -/
def State.standsReady (v : State) (m : AxisId) (x : Axis) : Prop :=
  v.mayStart m ∧ ∃ st r, v.axis m = { x with st := st, rate := r } ∧ (r = 0 ∨ r = x.rate)

/-- What is done to one axis leaves another ready. -/
theorem State.standsReady.of_changesTo {v u : State} {a m : AxisId} {x y : Axis} {reports : List ReportBody} {gone : List Segment}
    (ready : v.standsReady m x) (change : v.changesTo a y reports gone u) (ne : m ≠ a) : u.standsReady m x := by
  obtain ⟨⟨idle, st, out⟩, stands⟩ := ready
  have same := change.others m ne
  refine ⟨⟨by rw [same]; exact idle, by rw [same]; exact st, fun g => ?_⟩, by rw [same]; exact stands⟩
  rw [change.group]
  exact out g

/-- The members of a released group, one after another (R104). -/
theorem State.settle_members {now : Nat} {x y : AxisId → Axis} {reports : AxisId → List ReportBody} {gone : AxisId → List Segment} :
    ∀ (ms : List AxisId) {v : State}, ms.Nodup → v.clock = now →
      (∀ m ∈ ms, v.standsReady m (x m) ∧ (x m).activates now m (y m) (reports m) (gone m)) →
      ∃ u, v.settle (ms.map (.activate · none)) = u ∧ v.motionOnly u ∧ (∀ m, u.axis m = if m ∈ ms then y m else v.axis m)
        ∧ (∀ g, u.group g = v.groupLess (ms.flatMap gone) g) ∧ u.poolFree = v.poolFree + (ms.flatMap gone).length
        ∧ u.reports = v.reports.createAll v.deviceTime (ms.flatMap reports)
  | [], v, _, _, _ => ⟨v, v.settle_nil, .refl v, fun _ => rfl, fun _ => rfl, rfl, rfl⟩
  | m :: ms, v, distinct, clock, ready => by
    obtain ⟨apart, distinct⟩ := List.nodup_cons.mp distinct
    obtain ⟨⟨may, st, r, axis, rate⟩, activates⟩ := ready m (by simp)
    obtain ⟨u, change, settle⟩ := State.settle_activates clock may axis rate activates
    have others : ∀ n ∈ ms, u.standsReady n (x n) ∧ (x n).activates now n (y n) (reports n) (gone n) := fun n h =>
      ⟨(ready n (by simp [h])).1.of_changesTo change (fun e => apart (e ▸ h)), (ready n (by simp [h])).2⟩
    obtain ⟨t, settle', motion, axes, groups, pool, unit⟩ := State.settle_members ms distinct (change.touches.1.clock.trans clock) others
    have motion' := change.touches.1
    obtain ⟨axis', others', pool', groups', unit', -⟩ := change
    refine ⟨t, (settle _).trans settle', motion'.trans motion, fun n => ?_, fun g => ?_, ?_, ?_⟩
    · rw [axes]
      by_cases e : n = m
      · subst e
        simp [apart, axis']
      · simp [e, others' n e]
    · rw [groups, State.groupLess, groups', State.groupLess, State.groupLess, List.flatMap_cons, gatedOn_append, Nat.sub_sub]
    · rw [pool, pool', List.flatMap_cons, List.length_append, Nat.add_assoc]
    · rw [unit, unit', motion'.deviceTime, List.flatMap_cons, ReportUnit.createAll_append]

/-- The reports and segments of a member that is begun leave it in RUN. -/
theorem Axis.activates.run {now : Nat} {a : AxisId} {x y : Axis} {reports : List ReportBody} {gone : List Segment}
    (h : x.activates now a y reports gone) : y.st = .run := by
  obtain ⟨q, z, -, -, -, -, -, rfl, course⟩ := h
  rcases course with ⟨-, -, rfl⟩ | ⟨seg, d, report, -, -, rfl⟩ | ⟨seg, w, due, -, -, turns, ⟨-, -, -, rfl⟩ | ⟨-, -, -, -, rfl⟩⟩
  · rfl
  · rfl
  all_goals
    show w.st = .run
    rw [turns.frame.1, Axis.pulseOver_eq, Axis.endPulseIfOver_frame]

/-! ## The release -/

section Release
variable {s : State} {a : AxisId} {g : GroupId}

/-- An arrival that completes the set, worked off (R103). -/
theorem State.settle_begin_complete (may : s.mayStart a) (head : (s.axis a).headGate = some g)
    (full : (s.group g).arrived ||| axisBit a = (s.group g).members) :
    s.settle [.beginHead a none] = ((s.setAxis a { s.axis a with rate := 0 }).released g).settle
      ((([0, 1, 2, 3] : List AxisId).filter (fun m => inSet (s.group g).members m)).map (.activate · none)) := by
  obtain ⟨seg, q, queue, gate⟩ := (Axis.headGate_eq_some_iff _ _).mp head
  rw [State.settle_single, State.runTask, State.beginHead_of_gated may queue gate, State.arrive_of_complete full]
  rfl

/-- Every member of a released group may begin its head (R102, R104). -/
theorem State.standsReady_released (w : s.axesWf) (may : s.mayStart a) (full : (s.group g).arrived ||| axisBit a = (s.group g).members)
    {m : AxisId} (member : inSet (s.group g).members m = true) :
    ((s.setAxis a { s.axis a with rate := 0 }).released g).standsReady m (s.axis m) := by
  have meets := s.meets_released a g { s.axis a with rate := 0 }
  by_cases e : m = a
  · subst e
    refine ⟨⟨by rw [meets.axis]; exact may.1, by rw [meets.axis]; exact may.2.1, fun h => ?_⟩, _, 0, meets.axis, .inl rfl⟩
    by_cases own : h = g
    · rw [own, meets.set]
      exact inSet_zero m
    · rw [meets.sets h own]
      exact may.2.2 h
  · have arrived : inSet (s.group g).arrived m = true := by
      rw [← full, inSet_or, inSet_axisBit, decide_eq_false e, Bool.or_false] at member
      exact member
    obtain ⟨-, gate, head⟩ := w.2 g m arrived
    have same := meets.others m e
    refine ⟨State.mayStart_of_gate (meets.axesWf_release may w) (g := g) (by rw [same, gate]) (by rw [same, head]) ?_, _, _, same, .inr rfl⟩
    rw [meets.set]
    exact inSet_zero m

/-- An axis that a Start or a Resume finds without an active segment may begin its head. -/
theorem State.mayStart_of_request (w : s.axesWf)
    (st : (s.axis a).st = .ready ∨ (s.axis a).st = .held ∧ (s.axis a).ctx = none) : s.mayStart a := by
  have idle : (s.axis a).ctx = none := st.elim (fun e => (w.1 a).2.2.1 (.inr (.inl e))) And.right
  refine State.mayStart_of_st idle (by rcases st with e | ⟨e, -⟩ <;> simp [e]) fun h => Bool.eq_false_iff.mpr fun e => ?_
  obtain ⟨-, gate, -⟩ := w.2 h a e
  rcases st with e | ⟨e, -⟩ <;> simp [gate] at e

section ReleaseOutcome
variable {y : AxisId → Axis} {reports : AxisId → List ReportBody} {gone : AxisId → List Segment}

/-- There is a state in which the group is released as said. -/
theorem State.exists_releases (s : State) (g : GroupId) (y : AxisId → Axis) (reports : AxisId → List ReportBody)
    (gone : AxisId → List Segment) : ∃ t, s.releases g y reports gone t := by
  refine ⟨{ s with
      axes := mapAxes (fun m x => if m ∈ ([0, 1, 2, 3] : List AxisId).filter (fun m => inSet (s.group g).members m) then y m else x) s.axes
      groups := Vector.ofFn fun h : GroupId =>
        if h = g then { s.groupLess ((([0, 1, 2, 3] : List AxisId).filter (fun m => inSet (s.group g).members m)).flatMap gone) g with
          arrived := 0, timer := none, round := (s.group g).round + 1 }
        else s.groupLess ((([0, 1, 2, 3] : List AxisId).filter (fun m => inSet (s.group g).members m)).flatMap gone) h
      poolFree := s.poolFree + ((([0, 1, 2, 3] : List AxisId).filter (fun m => inSet (s.group g).members m)).flatMap gone).length
      reports := s.reports.createAll s.deviceTime
        ((if (s.group g).releaseReport then [.groupReleased g ((s.group g).round + 1)] else [])
          ++ (([0, 1, 2, 3] : List AxisId).filter (fun m => inSet (s.group g).members m)).flatMap reports) }, _, _, rfl, rfl,
    fun m => State.axis_with_axes s m _, ?_, fun h ne => ?_, rfl, rfl, rfl⟩
  · simp [State.group]
  · simp [State.group, ne]

/-- The release, worked off (R103, R104). -/
theorem State.releases_settle (w : s.axesWf) (may : s.mayStart a) (head : (s.axis a).headGate = some g)
    (full : (s.group g).arrived ||| axisBit a = (s.group g).members)
    (activates : ∀ m, inSet (s.group g).members m = true → (s.axis m).activates s.clock m (y m) (reports m) (gone m)) :
    s.releases g y reports gone (s.settle [.beginHead a none]) ∧ ((s.settle [.beginHead a none]).axis a).st = .run := by
  have distinct : (([0, 1, 2, 3] : List AxisId).filter (fun m => inSet (s.group g).members m)).Nodup := List.Nodup.filter _ (by decide)
  have member (m : AxisId) : m ∈ ([0, 1, 2, 3] : List AxisId).filter (fun m => inSet (s.group g).members m)
      ↔ inSet (s.group g).members m = true := mem_axesOf _ m
  obtain ⟨u, settle, motion, axes, groups, pool, unit⟩ := State.settle_members (now := s.clock) (x := s.axis) (y := y) (reports := reports)
    (gone := gone) (v := (s.setAxis a { s.axis a with rate := 0 }).released g) _ distinct rfl fun m h =>
      ⟨State.standsReady_released w may full ((member m).mp h), activates m ((member m).mp h)⟩
  have own : inSet (s.group g).members a = true := by rw [← full]; simp
  have meets := s.meets_released a g { s.axis a with rate := 0 }
  rw [State.settle_begin_complete may head full, settle]
  refine ⟨⟨_, _, rfl, rfl, fun m => ?_, ?_, fun h ne => ?_, pool, ?_, ?_⟩, ?_⟩
  · rw [axes]
    split
    · rfl
    · next out => exact meets.others m fun e => out (e ▸ (member a).mpr own)
  · have entry : ((s.setAxis a { s.axis a with rate := 0 }).released g).group g
        = { s.group g with arrived := 0, timer := none, round := (s.group g).round + 1 } := State.group_setGroup_self _ _ _
    rw [groups, State.groupLess, entry]
    rfl
  · have entry : ((s.setAxis a { s.axis a with rate := 0 }).released g).group h = s.group h := State.group_setGroup_ne _ _ ne
    rw [groups, State.groupLess, entry]
    rfl
  · rw [unit, ReportUnit.createAll_append]
    rfl
  · have released : s.motionOnly ((s.setAxis a { s.axis a with rate := 0 }).released g) := rfl
    exact released.trans motion
  · rw [axes, if_pos ((member a).mpr own)]
    exact (activates a own).run

end ReleaseOutcome

end Release

/-- Settles O25. -/
theorem lastArrivalReleasesEveryMember : Obligations.LastArrivalReleasesEveryMember := by
  intro s f rest a g y reports gone offered payload w counted head full
  refine ⟨fun activates => ?_, fun t settles => ⟨fun code ready => ?_, fun code held idle => ?_⟩⟩
  · by_cases may : s.mayStart a
    · obtain ⟨releases, run⟩ := State.releases_settle w may head full activates
      refine ⟨_, releases, fun code ready => ?_, fun code held idle => ?_⟩
      · rw [execStartAxis_eq offered code payload ready, run]
        rfl
      · rw [execResumeAxis_eq offered code payload held, State.resume_of_none idle, run]
        rfl
    · obtain ⟨t, releases⟩ := s.exists_releases g y reports gone
      exact ⟨t, releases, fun _ ready => absurd (State.mayStart_of_request w (.inl ready)) may,
        fun _ held idle => absurd (State.mayStart_of_request w (.inr ⟨held, idle⟩)) may⟩
  · rw [execStartAxis_eq offered code payload ready,
      State.settle_begin_complete (State.mayStart_of_request w (.inl ready)) head full, settles.settle_eq]
  · rw [execResumeAxis_eq offered code payload held, State.resume_of_none idle,
      State.settle_begin_complete (State.mayStart_of_request w (.inr ⟨held, idle⟩)) head full, settles.settle_eq]

end Sys2Proof.Machine
